-- ==== Sys2Proof/Word.lean ====
section
/-! DEFINITION. The two word types of the core: bytes (registers, memory, opcodes) and 16-bit addresses (00_scope R5, R8). -/

namespace Sys2Proof

/-- An 8-bit value: A, X, Y, S, a memory byte, an opcode (R5). -/
abbrev Byte := BitVec 8

/-- A 16-bit address, or PC (R5). -/
abbrev Addr := BitVec 16

end Sys2Proof
end

