-- ==== Sys2Proof/Config.lean ====
section
/-! DEFINITION. The parameters of 00_scope R6, fixed for a run (70_reset R343), and the free values of the peripheral callbacks. -/

namespace Sys2Proof

/-- P_BRK_MODE: what BRK does after advancing PC (R6, R243, D10). -/
inductive BrkMode where
  | signalStop
  | vector
  deriving DecidableEq, Repr

/-- P_DECIMAL_POLICY: ADC and SBC when D = 1 (R6, R124, D9). -/
inductive DecimalPolicy where
  | fault
  | binary
  deriving DecidableEq, Repr

/-- P_PAGE_PENALTY_SCOPE: which instructions pay the page-crossing cycle (R6, R127, D12). -/
inductive PenaltyScope where
  | allIndexed
  | readsOnly
  deriving DecidableEq, Repr

/-- A peripheral binding (R55): the addresses `first` to `last` inclusive, and the number of the device whose two
callbacks answer there. -/
structure Peripheral where
  first  : Addr
  last   : Addr
  device : Nat
  deriving DecidableEq, Repr

/-- One access a peripheral has seen: a read, or a write with its byte. -/
inductive AccessKind where
  | read
  | write (value : Byte)
  deriving DecidableEq, Repr

/-- An entry of the peripheral access history (R55: answers may depend on the whole history of accesses). -/
structure PeripheralAccess where
  device : Nat
  addr   : Addr
  kind   : AccessKind
  deriving DecidableEq, Repr

/-- The parameters of R6, but P_INIT_MEM, which is the RAM contents at power-on (`State.powerOn`). -/
structure Config where
  /-- P_LOAD_ADDR: PC after reset. -/
  loadAddr      : Addr
  /-- P_STACK_INIT: S after reset. -/
  stackInit     : Byte
  /-- P_END_ADDR: the run stops when PC equals it at an instruction boundary. -/
  endAddr       : Option Addr
  /-- P_STEP_BUDGET: the run stops after this many instructions. -/
  stepBudget    : Option Nat
  /-- P_RESERVED_LIMIT: accesses below it fault with InvalidAddress. -/
  reservedLimit : Addr
  /-- P_ZP_BASE: base of the zero page; its low byte is ignored (R111). -/
  zpBase        : Addr
  /-- P_BRK_MODE. -/
  brkMode       : BrkMode
  /-- P_BRK_VECTOR: the vector BRK reads in `vector` mode. -/
  brkVector     : Addr
  /-- P_DECIMAL_POLICY. -/
  decimalPolicy : DecimalPolicy
  /-- P_PAGE_PENALTY_SCOPE. -/
  pagePenalty   : PenaltyScope
  /-- P_PERIPHERALS. -/
  peripherals   : List Peripheral
  deriving DecidableEq, Repr

/-- The defaults of R6. P_LOAD_ADDR and P_STACK_INIT have no default there: 0x0600 and 0xFF are the model's.
DESIGN CHOICE (log entries 1 and 4). -/
def Config.default : Config where
  loadAddr      := 0x0600
  stackInit     := 0xFF
  endAddr       := none
  stepBudget    := none
  reservedLimit := 0x0000
  zpBase        := 0x0000
  brkMode       := .signalStop
  brkVector     := 0xFFFE
  decimalPolicy := .fault
  pagePenalty   := .allIndexed
  peripherals   := []

/-- FREE VALUE (R55, D7, I3; log entry 5): what a device's `read_fn` answers at an address, after the accesses in
`history` (newest first, that device's only): a byte, or failure. No value of it can be proved. -/
opaque Config.readAnswer (device : Nat) (history : List PeripheralAccess) (addr : Addr) : Option Byte

/-- FREE VALUE (R55, D7, I3; log entry 5): whether a device's `write_fn` accepts a byte at an address, after the
accesses in `history`. No value of it can be proved. -/
opaque Config.writeAnswer (device : Nat) (history : List PeripheralAccess) (addr : Addr) (value : Byte) : Bool

end Sys2Proof
end

