-- ==== Sys2Proof/Syntax.lean ====
section
/-! DEFINITION. The instruction set as syntax: the 56 mnemonics, the 13 addressing modes, and `Instr`, one constructor for
each of the 151 rows of spec/opcode_table.json (30_encoding R82, R84). An operand is a byte (imm8, zp8 or rel8) or a
16-bit address. -/

namespace Sys2Proof

/-- The 56 mnemonics of the catalog (R2, R84). -/
inductive Mnemonic where
  | lda | ldx | ldy | sta | stx | sty | tax | tay | txa | tya | tsx | txs
  | adc | sbc | cmp | cpx | cpy | inc | dec | inx | iny | dex | dey
  | and | ora | eor | bit | asl | lsr | rol | ror
  | jmp | jsr | rts | rti | bpl | bmi | bvc | bvs | bcc | bcs | bne | beq | brk | nop
  | pha | php | pla | plp | clc | sec | cli | sei | cld | sed | clv
  deriving DecidableEq, Repr

/-- The thirteen addressing modes of R82. The set is closed, so no unrecognised mode tag exists (R90). -/
inductive Mode where
  | implied | accumulator | immediate
  | zeroPage | zeroPageX | zeroPageY
  | absolute | absoluteX | absoluteY
  | indirect | indirectX | indirectY
  | relative
  deriving DecidableEq, Repr

/-- The instructions: one constructor per opcode (R84). -/
inductive Instr where
  -- LoadStore
  | ldaIndX (zp : Byte)
  | ldaZp (zp : Byte)
  | ldaImm (imm : Byte)
  | ldaAbs (addr : Addr)
  | ldaIndY (zp : Byte)
  | ldaZpX (zp : Byte)
  | ldaAbsY (addr : Addr)
  | ldaAbsX (addr : Addr)
  | ldxImm (imm : Byte)
  | ldxZp (zp : Byte)
  | ldxAbs (addr : Addr)
  | ldxZpY (zp : Byte)
  | ldxAbsY (addr : Addr)
  | ldyImm (imm : Byte)
  | ldyZp (zp : Byte)
  | ldyAbs (addr : Addr)
  | ldyZpX (zp : Byte)
  | ldyAbsX (addr : Addr)
  | staIndX (zp : Byte)
  | staZp (zp : Byte)
  | staAbs (addr : Addr)
  | staIndY (zp : Byte)
  | staZpX (zp : Byte)
  | staAbsY (addr : Addr)
  | staAbsX (addr : Addr)
  | stxZp (zp : Byte)
  | stxAbs (addr : Addr)
  | stxZpY (zp : Byte)
  | styZp (zp : Byte)
  | styAbs (addr : Addr)
  | styZpX (zp : Byte)
  | tax
  | tay
  | txa
  | tya
  | tsx
  | txs
  -- Arithmetic
  | adcIndX (zp : Byte)
  | adcZp (zp : Byte)
  | adcImm (imm : Byte)
  | adcAbs (addr : Addr)
  | adcIndY (zp : Byte)
  | adcZpX (zp : Byte)
  | adcAbsY (addr : Addr)
  | adcAbsX (addr : Addr)
  | sbcIndX (zp : Byte)
  | sbcZp (zp : Byte)
  | sbcImm (imm : Byte)
  | sbcAbs (addr : Addr)
  | sbcIndY (zp : Byte)
  | sbcZpX (zp : Byte)
  | sbcAbsY (addr : Addr)
  | sbcAbsX (addr : Addr)
  | cmpIndX (zp : Byte)
  | cmpZp (zp : Byte)
  | cmpImm (imm : Byte)
  | cmpAbs (addr : Addr)
  | cmpIndY (zp : Byte)
  | cmpZpX (zp : Byte)
  | cmpAbsY (addr : Addr)
  | cmpAbsX (addr : Addr)
  | cpxImm (imm : Byte)
  | cpxZp (zp : Byte)
  | cpxAbs (addr : Addr)
  | cpyImm (imm : Byte)
  | cpyZp (zp : Byte)
  | cpyAbs (addr : Addr)
  | incZp (zp : Byte)
  | incAbs (addr : Addr)
  | incZpX (zp : Byte)
  | incAbsX (addr : Addr)
  | decZp (zp : Byte)
  | decAbs (addr : Addr)
  | decZpX (zp : Byte)
  | decAbsX (addr : Addr)
  | inx
  | iny
  | dex
  | dey
  -- LogicShift
  | andIndX (zp : Byte)
  | andZp (zp : Byte)
  | andImm (imm : Byte)
  | andAbs (addr : Addr)
  | andIndY (zp : Byte)
  | andZpX (zp : Byte)
  | andAbsY (addr : Addr)
  | andAbsX (addr : Addr)
  | oraIndX (zp : Byte)
  | oraZp (zp : Byte)
  | oraImm (imm : Byte)
  | oraAbs (addr : Addr)
  | oraIndY (zp : Byte)
  | oraZpX (zp : Byte)
  | oraAbsY (addr : Addr)
  | oraAbsX (addr : Addr)
  | eorIndX (zp : Byte)
  | eorZp (zp : Byte)
  | eorImm (imm : Byte)
  | eorAbs (addr : Addr)
  | eorIndY (zp : Byte)
  | eorZpX (zp : Byte)
  | eorAbsY (addr : Addr)
  | eorAbsX (addr : Addr)
  | bitZp (zp : Byte)
  | bitAbs (addr : Addr)
  | aslZp (zp : Byte)
  | aslAcc
  | aslAbs (addr : Addr)
  | aslZpX (zp : Byte)
  | aslAbsX (addr : Addr)
  | lsrZp (zp : Byte)
  | lsrAcc
  | lsrAbs (addr : Addr)
  | lsrZpX (zp : Byte)
  | lsrAbsX (addr : Addr)
  | rolZp (zp : Byte)
  | rolAcc
  | rolAbs (addr : Addr)
  | rolZpX (zp : Byte)
  | rolAbsX (addr : Addr)
  | rorZp (zp : Byte)
  | rorAcc
  | rorAbs (addr : Addr)
  | rorZpX (zp : Byte)
  | rorAbsX (addr : Addr)
  -- Control
  | jmpAbs (addr : Addr)
  | jmpInd (addr : Addr)
  | jsr (addr : Addr)
  | rts
  | rti
  | bpl (rel : Byte)
  | bmi (rel : Byte)
  | bvc (rel : Byte)
  | bvs (rel : Byte)
  | bcc (rel : Byte)
  | bcs (rel : Byte)
  | bne (rel : Byte)
  | beq (rel : Byte)
  | brk
  | nop
  -- StackStatus
  | pha
  | php
  | pla
  | plp
  | clc
  | sec
  | cli
  | sei
  | cld
  | sed
  | clv
  deriving DecidableEq, Repr

end Sys2Proof
end

