-- ==== Sys2Proof/WellFormed.lean ====
section
/-! DEFINITION. Well-formedness of a configuration (20_memory R56). An `Instr` needs no check: its constructors are the
151 opcodes and its operands have exactly the widths of R83, so every term of the type is well-formed. -/

namespace Sys2Proof

/-- A peripheral's range is not reversed (R56). -/
def Peripheral.rangeOrdered (p : Peripheral) : Bool := decide (p.first ≤ p.last)

/-- Two ranges share no address (R56). -/
def Peripheral.disjointFrom (p q : Peripheral) : Bool := decide (p.last < q.first) || decide (q.last < p.first)

/-- Every range is ordered and no two ranges share an address (R56). -/
def peripheralsWellFormed : List Peripheral → Bool
  | [] => true
  | p :: rest => p.rangeOrdered && rest.all p.disjointFrom && peripheralsWellFormed rest

/-- R56: a configuration with overlapping or reversed peripheral ranges is ill-formed, and the model refuses it. -/
def Config.wellFormed (c : Config) : Bool := peripheralsWellFormed c.peripherals

end Sys2Proof
end

