-- ==== Sys2Proof/Decode.lean ====
section
/-! DEFINITION. The decoder (30_encoding): the Opcode Dispatch Map, operand assembly, decoding of a byte list; then the
Instruction Catalog, the lookups of R87 and the encoder, written from the catalog. -/

namespace Sys2Proof

/-! ### Bytes and addresses (R7, R8, R59) -/

/-- `hi:lo`: the 16-bit value of two bytes (R7). -/
def hiLo (hi lo : Byte) : Addr := hi ++ lo

/-- `v[7:0]` of a 16-bit value. -/
def loByte (v : Addr) : Byte := v.extractLsb' 0 8

/-- `v[15:8]` of a 16-bit value; two addresses are on one page iff these are equal (R11, R122). -/
def hiByte (v : Addr) : Byte := v.extractLsb' 8 8

/-- `zext_16` (R8). -/
def zext16 (b : Byte) : Addr := b.setWidth 16

/-- `sext_16` (R8). -/
def sext16 (b : Byte) : Addr := b.signExtend 16

/-! ### The Opcode Dispatch Map (R84, R85) -/

/-- A slot of the dispatch map: unassigned, or the instruction of the opcode, waiting for its operand (0, 1 or 2 bytes). -/
inductive Slot where
  | unassigned
  | noOperand (i : Instr)
  | byteOperand (build : Byte → Instr)
  | wordOperand (build : Addr → Instr)

/-- Row 0x of R84, by low nibble. -/
def mapRow0 : Nat → Slot
  | 0x0 => .noOperand .brk
  | 0x1 => .byteOperand .oraIndX
  | 0x5 => .byteOperand .oraZp
  | 0x6 => .byteOperand .aslZp
  | 0x8 => .noOperand .php
  | 0x9 => .byteOperand .oraImm
  | 0xA => .noOperand .aslAcc
  | 0xD => .wordOperand .oraAbs
  | 0xE => .wordOperand .aslAbs
  | _ => .unassigned

/-- Row 1x of R84, by low nibble. -/
def mapRow1 : Nat → Slot
  | 0x0 => .byteOperand .bpl
  | 0x1 => .byteOperand .oraIndY
  | 0x5 => .byteOperand .oraZpX
  | 0x6 => .byteOperand .aslZpX
  | 0x8 => .noOperand .clc
  | 0x9 => .wordOperand .oraAbsY
  | 0xD => .wordOperand .oraAbsX
  | 0xE => .wordOperand .aslAbsX
  | _ => .unassigned

/-- Row 2x of R84, by low nibble. -/
def mapRow2 : Nat → Slot
  | 0x0 => .wordOperand .jsr
  | 0x1 => .byteOperand .andIndX
  | 0x4 => .byteOperand .bitZp
  | 0x5 => .byteOperand .andZp
  | 0x6 => .byteOperand .rolZp
  | 0x8 => .noOperand .plp
  | 0x9 => .byteOperand .andImm
  | 0xA => .noOperand .rolAcc
  | 0xC => .wordOperand .bitAbs
  | 0xD => .wordOperand .andAbs
  | 0xE => .wordOperand .rolAbs
  | _ => .unassigned

/-- Row 3x of R84, by low nibble. -/
def mapRow3 : Nat → Slot
  | 0x0 => .byteOperand .bmi
  | 0x1 => .byteOperand .andIndY
  | 0x5 => .byteOperand .andZpX
  | 0x6 => .byteOperand .rolZpX
  | 0x8 => .noOperand .sec
  | 0x9 => .wordOperand .andAbsY
  | 0xD => .wordOperand .andAbsX
  | 0xE => .wordOperand .rolAbsX
  | _ => .unassigned

/-- Row 4x of R84, by low nibble. -/
def mapRow4 : Nat → Slot
  | 0x0 => .noOperand .rti
  | 0x1 => .byteOperand .eorIndX
  | 0x5 => .byteOperand .eorZp
  | 0x6 => .byteOperand .lsrZp
  | 0x8 => .noOperand .pha
  | 0x9 => .byteOperand .eorImm
  | 0xA => .noOperand .lsrAcc
  | 0xC => .wordOperand .jmpAbs
  | 0xD => .wordOperand .eorAbs
  | 0xE => .wordOperand .lsrAbs
  | _ => .unassigned

/-- Row 5x of R84, by low nibble. -/
def mapRow5 : Nat → Slot
  | 0x0 => .byteOperand .bvc
  | 0x1 => .byteOperand .eorIndY
  | 0x5 => .byteOperand .eorZpX
  | 0x6 => .byteOperand .lsrZpX
  | 0x8 => .noOperand .cli
  | 0x9 => .wordOperand .eorAbsY
  | 0xD => .wordOperand .eorAbsX
  | 0xE => .wordOperand .lsrAbsX
  | _ => .unassigned

/-- Row 6x of R84, by low nibble. -/
def mapRow6 : Nat → Slot
  | 0x0 => .noOperand .rts
  | 0x1 => .byteOperand .adcIndX
  | 0x5 => .byteOperand .adcZp
  | 0x6 => .byteOperand .rorZp
  | 0x8 => .noOperand .pla
  | 0x9 => .byteOperand .adcImm
  | 0xA => .noOperand .rorAcc
  | 0xC => .wordOperand .jmpInd
  | 0xD => .wordOperand .adcAbs
  | 0xE => .wordOperand .rorAbs
  | _ => .unassigned

/-- Row 7x of R84, by low nibble. -/
def mapRow7 : Nat → Slot
  | 0x0 => .byteOperand .bvs
  | 0x1 => .byteOperand .adcIndY
  | 0x5 => .byteOperand .adcZpX
  | 0x6 => .byteOperand .rorZpX
  | 0x8 => .noOperand .sei
  | 0x9 => .wordOperand .adcAbsY
  | 0xD => .wordOperand .adcAbsX
  | 0xE => .wordOperand .rorAbsX
  | _ => .unassigned

/-- Row 8x of R84, by low nibble. -/
def mapRow8 : Nat → Slot
  | 0x1 => .byteOperand .staIndX
  | 0x4 => .byteOperand .styZp
  | 0x5 => .byteOperand .staZp
  | 0x6 => .byteOperand .stxZp
  | 0x8 => .noOperand .dey
  | 0xA => .noOperand .txa
  | 0xC => .wordOperand .styAbs
  | 0xD => .wordOperand .staAbs
  | 0xE => .wordOperand .stxAbs
  | _ => .unassigned

/-- Row 9x of R84, by low nibble. -/
def mapRow9 : Nat → Slot
  | 0x0 => .byteOperand .bcc
  | 0x1 => .byteOperand .staIndY
  | 0x4 => .byteOperand .styZpX
  | 0x5 => .byteOperand .staZpX
  | 0x6 => .byteOperand .stxZpY
  | 0x8 => .noOperand .tya
  | 0x9 => .wordOperand .staAbsY
  | 0xA => .noOperand .txs
  | 0xD => .wordOperand .staAbsX
  | _ => .unassigned

/-- Row Ax of R84, by low nibble. -/
def mapRowA : Nat → Slot
  | 0x0 => .byteOperand .ldyImm
  | 0x1 => .byteOperand .ldaIndX
  | 0x2 => .byteOperand .ldxImm
  | 0x4 => .byteOperand .ldyZp
  | 0x5 => .byteOperand .ldaZp
  | 0x6 => .byteOperand .ldxZp
  | 0x8 => .noOperand .tay
  | 0x9 => .byteOperand .ldaImm
  | 0xA => .noOperand .tax
  | 0xC => .wordOperand .ldyAbs
  | 0xD => .wordOperand .ldaAbs
  | 0xE => .wordOperand .ldxAbs
  | _ => .unassigned

/-- Row Bx of R84, by low nibble. -/
def mapRowB : Nat → Slot
  | 0x0 => .byteOperand .bcs
  | 0x1 => .byteOperand .ldaIndY
  | 0x4 => .byteOperand .ldyZpX
  | 0x5 => .byteOperand .ldaZpX
  | 0x6 => .byteOperand .ldxZpY
  | 0x8 => .noOperand .clv
  | 0x9 => .wordOperand .ldaAbsY
  | 0xA => .noOperand .tsx
  | 0xC => .wordOperand .ldyAbsX
  | 0xD => .wordOperand .ldaAbsX
  | 0xE => .wordOperand .ldxAbsY
  | _ => .unassigned

/-- Row Cx of R84, by low nibble. -/
def mapRowC : Nat → Slot
  | 0x0 => .byteOperand .cpyImm
  | 0x1 => .byteOperand .cmpIndX
  | 0x4 => .byteOperand .cpyZp
  | 0x5 => .byteOperand .cmpZp
  | 0x6 => .byteOperand .decZp
  | 0x8 => .noOperand .iny
  | 0x9 => .byteOperand .cmpImm
  | 0xA => .noOperand .dex
  | 0xC => .wordOperand .cpyAbs
  | 0xD => .wordOperand .cmpAbs
  | 0xE => .wordOperand .decAbs
  | _ => .unassigned

/-- Row Dx of R84, by low nibble. -/
def mapRowD : Nat → Slot
  | 0x0 => .byteOperand .bne
  | 0x1 => .byteOperand .cmpIndY
  | 0x5 => .byteOperand .cmpZpX
  | 0x6 => .byteOperand .decZpX
  | 0x8 => .noOperand .cld
  | 0x9 => .wordOperand .cmpAbsY
  | 0xD => .wordOperand .cmpAbsX
  | 0xE => .wordOperand .decAbsX
  | _ => .unassigned

/-- Row Ex of R84, by low nibble. -/
def mapRowE : Nat → Slot
  | 0x0 => .byteOperand .cpxImm
  | 0x1 => .byteOperand .sbcIndX
  | 0x4 => .byteOperand .cpxZp
  | 0x5 => .byteOperand .sbcZp
  | 0x6 => .byteOperand .incZp
  | 0x8 => .noOperand .inx
  | 0x9 => .byteOperand .sbcImm
  | 0xA => .noOperand .nop
  | 0xC => .wordOperand .cpxAbs
  | 0xD => .wordOperand .sbcAbs
  | 0xE => .wordOperand .incAbs
  | _ => .unassigned

/-- Row Fx of R84, by low nibble. -/
def mapRowF : Nat → Slot
  | 0x0 => .byteOperand .beq
  | 0x1 => .byteOperand .sbcIndY
  | 0x5 => .byteOperand .sbcZpX
  | 0x6 => .byteOperand .incZpX
  | 0x8 => .noOperand .sed
  | 0x9 => .wordOperand .sbcAbsY
  | 0xD => .wordOperand .sbcAbsX
  | 0xE => .wordOperand .incAbsX
  | _ => .unassigned

/-- The 256-entry map, row by high nibble and column by low nibble: the 151 opcodes of R84; the 105 others are
unassigned (R85). -/
def dispatchMap (opcode : Byte) : Slot :=
  match opcode.toNat / 16 with
  | 0x0 => mapRow0 (opcode.toNat % 16)
  | 0x1 => mapRow1 (opcode.toNat % 16)
  | 0x2 => mapRow2 (opcode.toNat % 16)
  | 0x3 => mapRow3 (opcode.toNat % 16)
  | 0x4 => mapRow4 (opcode.toNat % 16)
  | 0x5 => mapRow5 (opcode.toNat % 16)
  | 0x6 => mapRow6 (opcode.toNat % 16)
  | 0x7 => mapRow7 (opcode.toNat % 16)
  | 0x8 => mapRow8 (opcode.toNat % 16)
  | 0x9 => mapRow9 (opcode.toNat % 16)
  | 0xA => mapRowA (opcode.toNat % 16)
  | 0xB => mapRowB (opcode.toNat % 16)
  | 0xC => mapRowC (opcode.toNat % 16)
  | 0xD => mapRowD (opcode.toNat % 16)
  | 0xE => mapRowE (opcode.toNat % 16)
  | 0xF => mapRowF (opcode.toNat % 16)
  | _ => .unassigned

/-! ### Decoding (R80, R81, R83) -/

/-- Why a byte list is no instruction: no entry for its opcode (R85), or too few bytes. -/
inductive DecodeError where
  | unassignedOpcode (opcode : Byte)
  | truncated
  deriving DecidableEq, Repr

/-- A decoder's answer: an instruction and the bytes after it, or a rejection by name. -/
inductive Decoded where
  | instr (i : Instr) (rest : List Byte)
  | rejected (e : DecodeError)
  deriving DecidableEq, Repr

/-- Decode the instruction at the head of a byte list, with the bytes after it. The opcode alone fixes the length
(R81); a 16-bit operand comes low byte first (R83). -/
def decode : List Byte → Decoded
  | [] => .rejected .truncated
  | opcode :: rest =>
    match dispatchMap opcode, rest with
    | .unassigned, _ => .rejected (.unassignedOpcode opcode)
    | .noOperand i, rest => .instr i rest
    | .byteOperand build, b :: rest => .instr (build b) rest
    | .wordOperand build, lo :: hi :: rest => .instr (build (hiLo hi lo)) rest
    | _, _ => .rejected .truncated

/-- The three bytes that hold the low `nbits` bits of `w`, first byte first: bit 0 of `w` is bit 0 of the opcode. -/
def tableBytes (nbits w : Nat) : List Byte :=
  let v := w % 2 ^ nbits
  [BitVec.ofNat 8 v, BitVec.ofNat 8 (v / 256), BitVec.ofNat 8 (v / 65536)]

/-- The instruction the decoder reads from a word of spec/opcode_table.json. -/
def decodeTableWord (nbits w : Nat) : Option Instr :=
  match decode (tableBytes nbits w) with
  | .instr i _ => some i
  | .rejected _ => none

/-! ### The Instruction Catalog (R84, by mnemonic) -/

/-- The length in bytes of an instruction of each mode (R82). -/
def Mode.length : Mode → Nat
  | .implied | .accumulator => 1
  | .immediate | .zeroPage | .zeroPageX | .zeroPageY | .indirectX | .indirectY | .relative => 2
  | .absolute | .absoluteX | .absoluteY | .indirect => 3

/-- A variant of a descriptor: opcode byte, mnemonic, addressing mode and base cycle count (R11, R84). -/
structure Variant where
  opcode   : Byte
  mnemonic : Mnemonic
  mode     : Mode
  base     : Nat
  deriving DecidableEq, Repr

/-- The catalog's variant of each instruction (the by-mnemonic table of R84). -/
def Instr.variant : Instr → Variant
  | .ldaIndX _ => ⟨0xA1, .lda, .indirectX, 6⟩
  | .ldaZp _ => ⟨0xA5, .lda, .zeroPage, 3⟩
  | .ldaImm _ => ⟨0xA9, .lda, .immediate, 2⟩
  | .ldaAbs _ => ⟨0xAD, .lda, .absolute, 4⟩
  | .ldaIndY _ => ⟨0xB1, .lda, .indirectY, 5⟩
  | .ldaZpX _ => ⟨0xB5, .lda, .zeroPageX, 4⟩
  | .ldaAbsY _ => ⟨0xB9, .lda, .absoluteY, 4⟩
  | .ldaAbsX _ => ⟨0xBD, .lda, .absoluteX, 4⟩
  | .ldxImm _ => ⟨0xA2, .ldx, .immediate, 2⟩
  | .ldxZp _ => ⟨0xA6, .ldx, .zeroPage, 3⟩
  | .ldxAbs _ => ⟨0xAE, .ldx, .absolute, 4⟩
  | .ldxZpY _ => ⟨0xB6, .ldx, .zeroPageY, 4⟩
  | .ldxAbsY _ => ⟨0xBE, .ldx, .absoluteY, 4⟩
  | .ldyImm _ => ⟨0xA0, .ldy, .immediate, 2⟩
  | .ldyZp _ => ⟨0xA4, .ldy, .zeroPage, 3⟩
  | .ldyAbs _ => ⟨0xAC, .ldy, .absolute, 4⟩
  | .ldyZpX _ => ⟨0xB4, .ldy, .zeroPageX, 4⟩
  | .ldyAbsX _ => ⟨0xBC, .ldy, .absoluteX, 4⟩
  | .staIndX _ => ⟨0x81, .sta, .indirectX, 6⟩
  | .staZp _ => ⟨0x85, .sta, .zeroPage, 3⟩
  | .staAbs _ => ⟨0x8D, .sta, .absolute, 4⟩
  | .staIndY _ => ⟨0x91, .sta, .indirectY, 6⟩
  | .staZpX _ => ⟨0x95, .sta, .zeroPageX, 4⟩
  | .staAbsY _ => ⟨0x99, .sta, .absoluteY, 5⟩
  | .staAbsX _ => ⟨0x9D, .sta, .absoluteX, 5⟩
  | .stxZp _ => ⟨0x86, .stx, .zeroPage, 3⟩
  | .stxAbs _ => ⟨0x8E, .stx, .absolute, 4⟩
  | .stxZpY _ => ⟨0x96, .stx, .zeroPageY, 4⟩
  | .styZp _ => ⟨0x84, .sty, .zeroPage, 3⟩
  | .styAbs _ => ⟨0x8C, .sty, .absolute, 4⟩
  | .styZpX _ => ⟨0x94, .sty, .zeroPageX, 4⟩
  | .tax => ⟨0xAA, .tax, .implied, 2⟩
  | .tay => ⟨0xA8, .tay, .implied, 2⟩
  | .txa => ⟨0x8A, .txa, .implied, 2⟩
  | .tya => ⟨0x98, .tya, .implied, 2⟩
  | .tsx => ⟨0xBA, .tsx, .implied, 2⟩
  | .txs => ⟨0x9A, .txs, .implied, 2⟩
  | .adcIndX _ => ⟨0x61, .adc, .indirectX, 6⟩
  | .adcZp _ => ⟨0x65, .adc, .zeroPage, 3⟩
  | .adcImm _ => ⟨0x69, .adc, .immediate, 2⟩
  | .adcAbs _ => ⟨0x6D, .adc, .absolute, 4⟩
  | .adcIndY _ => ⟨0x71, .adc, .indirectY, 5⟩
  | .adcZpX _ => ⟨0x75, .adc, .zeroPageX, 4⟩
  | .adcAbsY _ => ⟨0x79, .adc, .absoluteY, 4⟩
  | .adcAbsX _ => ⟨0x7D, .adc, .absoluteX, 4⟩
  | .sbcIndX _ => ⟨0xE1, .sbc, .indirectX, 6⟩
  | .sbcZp _ => ⟨0xE5, .sbc, .zeroPage, 3⟩
  | .sbcImm _ => ⟨0xE9, .sbc, .immediate, 2⟩
  | .sbcAbs _ => ⟨0xED, .sbc, .absolute, 4⟩
  | .sbcIndY _ => ⟨0xF1, .sbc, .indirectY, 5⟩
  | .sbcZpX _ => ⟨0xF5, .sbc, .zeroPageX, 4⟩
  | .sbcAbsY _ => ⟨0xF9, .sbc, .absoluteY, 4⟩
  | .sbcAbsX _ => ⟨0xFD, .sbc, .absoluteX, 4⟩
  | .cmpIndX _ => ⟨0xC1, .cmp, .indirectX, 6⟩
  | .cmpZp _ => ⟨0xC5, .cmp, .zeroPage, 3⟩
  | .cmpImm _ => ⟨0xC9, .cmp, .immediate, 2⟩
  | .cmpAbs _ => ⟨0xCD, .cmp, .absolute, 4⟩
  | .cmpIndY _ => ⟨0xD1, .cmp, .indirectY, 5⟩
  | .cmpZpX _ => ⟨0xD5, .cmp, .zeroPageX, 4⟩
  | .cmpAbsY _ => ⟨0xD9, .cmp, .absoluteY, 4⟩
  | .cmpAbsX _ => ⟨0xDD, .cmp, .absoluteX, 4⟩
  | .cpxImm _ => ⟨0xE0, .cpx, .immediate, 2⟩
  | .cpxZp _ => ⟨0xE4, .cpx, .zeroPage, 3⟩
  | .cpxAbs _ => ⟨0xEC, .cpx, .absolute, 4⟩
  | .cpyImm _ => ⟨0xC0, .cpy, .immediate, 2⟩
  | .cpyZp _ => ⟨0xC4, .cpy, .zeroPage, 3⟩
  | .cpyAbs _ => ⟨0xCC, .cpy, .absolute, 4⟩
  | .incZp _ => ⟨0xE6, .inc, .zeroPage, 5⟩
  | .incAbs _ => ⟨0xEE, .inc, .absolute, 6⟩
  | .incZpX _ => ⟨0xF6, .inc, .zeroPageX, 6⟩
  | .incAbsX _ => ⟨0xFE, .inc, .absoluteX, 7⟩
  | .decZp _ => ⟨0xC6, .dec, .zeroPage, 5⟩
  | .decAbs _ => ⟨0xCE, .dec, .absolute, 6⟩
  | .decZpX _ => ⟨0xD6, .dec, .zeroPageX, 6⟩
  | .decAbsX _ => ⟨0xDE, .dec, .absoluteX, 7⟩
  | .inx => ⟨0xE8, .inx, .implied, 2⟩
  | .iny => ⟨0xC8, .iny, .implied, 2⟩
  | .dex => ⟨0xCA, .dex, .implied, 2⟩
  | .dey => ⟨0x88, .dey, .implied, 2⟩
  | .andIndX _ => ⟨0x21, .and, .indirectX, 6⟩
  | .andZp _ => ⟨0x25, .and, .zeroPage, 3⟩
  | .andImm _ => ⟨0x29, .and, .immediate, 2⟩
  | .andAbs _ => ⟨0x2D, .and, .absolute, 4⟩
  | .andIndY _ => ⟨0x31, .and, .indirectY, 5⟩
  | .andZpX _ => ⟨0x35, .and, .zeroPageX, 4⟩
  | .andAbsY _ => ⟨0x39, .and, .absoluteY, 4⟩
  | .andAbsX _ => ⟨0x3D, .and, .absoluteX, 4⟩
  | .oraIndX _ => ⟨0x01, .ora, .indirectX, 6⟩
  | .oraZp _ => ⟨0x05, .ora, .zeroPage, 3⟩
  | .oraImm _ => ⟨0x09, .ora, .immediate, 2⟩
  | .oraAbs _ => ⟨0x0D, .ora, .absolute, 4⟩
  | .oraIndY _ => ⟨0x11, .ora, .indirectY, 5⟩
  | .oraZpX _ => ⟨0x15, .ora, .zeroPageX, 4⟩
  | .oraAbsY _ => ⟨0x19, .ora, .absoluteY, 4⟩
  | .oraAbsX _ => ⟨0x1D, .ora, .absoluteX, 4⟩
  | .eorIndX _ => ⟨0x41, .eor, .indirectX, 6⟩
  | .eorZp _ => ⟨0x45, .eor, .zeroPage, 3⟩
  | .eorImm _ => ⟨0x49, .eor, .immediate, 2⟩
  | .eorAbs _ => ⟨0x4D, .eor, .absolute, 4⟩
  | .eorIndY _ => ⟨0x51, .eor, .indirectY, 5⟩
  | .eorZpX _ => ⟨0x55, .eor, .zeroPageX, 4⟩
  | .eorAbsY _ => ⟨0x59, .eor, .absoluteY, 4⟩
  | .eorAbsX _ => ⟨0x5D, .eor, .absoluteX, 4⟩
  | .bitZp _ => ⟨0x24, .bit, .zeroPage, 3⟩
  | .bitAbs _ => ⟨0x2C, .bit, .absolute, 4⟩
  | .aslZp _ => ⟨0x06, .asl, .zeroPage, 5⟩
  | .aslAcc => ⟨0x0A, .asl, .accumulator, 2⟩
  | .aslAbs _ => ⟨0x0E, .asl, .absolute, 6⟩
  | .aslZpX _ => ⟨0x16, .asl, .zeroPageX, 6⟩
  | .aslAbsX _ => ⟨0x1E, .asl, .absoluteX, 7⟩
  | .lsrZp _ => ⟨0x46, .lsr, .zeroPage, 5⟩
  | .lsrAcc => ⟨0x4A, .lsr, .accumulator, 2⟩
  | .lsrAbs _ => ⟨0x4E, .lsr, .absolute, 6⟩
  | .lsrZpX _ => ⟨0x56, .lsr, .zeroPageX, 6⟩
  | .lsrAbsX _ => ⟨0x5E, .lsr, .absoluteX, 7⟩
  | .rolZp _ => ⟨0x26, .rol, .zeroPage, 5⟩
  | .rolAcc => ⟨0x2A, .rol, .accumulator, 2⟩
  | .rolAbs _ => ⟨0x2E, .rol, .absolute, 6⟩
  | .rolZpX _ => ⟨0x36, .rol, .zeroPageX, 6⟩
  | .rolAbsX _ => ⟨0x3E, .rol, .absoluteX, 7⟩
  | .rorZp _ => ⟨0x66, .ror, .zeroPage, 5⟩
  | .rorAcc => ⟨0x6A, .ror, .accumulator, 2⟩
  | .rorAbs _ => ⟨0x6E, .ror, .absolute, 6⟩
  | .rorZpX _ => ⟨0x76, .ror, .zeroPageX, 6⟩
  | .rorAbsX _ => ⟨0x7E, .ror, .absoluteX, 7⟩
  | .jmpAbs _ => ⟨0x4C, .jmp, .absolute, 3⟩
  | .jmpInd _ => ⟨0x6C, .jmp, .indirect, 5⟩
  | .jsr _ => ⟨0x20, .jsr, .absolute, 6⟩
  | .rts => ⟨0x60, .rts, .implied, 6⟩
  | .rti => ⟨0x40, .rti, .implied, 6⟩
  | .bpl _ => ⟨0x10, .bpl, .relative, 2⟩
  | .bmi _ => ⟨0x30, .bmi, .relative, 2⟩
  | .bvc _ => ⟨0x50, .bvc, .relative, 2⟩
  | .bvs _ => ⟨0x70, .bvs, .relative, 2⟩
  | .bcc _ => ⟨0x90, .bcc, .relative, 2⟩
  | .bcs _ => ⟨0xB0, .bcs, .relative, 2⟩
  | .bne _ => ⟨0xD0, .bne, .relative, 2⟩
  | .beq _ => ⟨0xF0, .beq, .relative, 2⟩
  | .brk => ⟨0x00, .brk, .implied, 7⟩
  | .nop => ⟨0xEA, .nop, .implied, 2⟩
  | .pha => ⟨0x48, .pha, .implied, 3⟩
  | .php => ⟨0x08, .php, .implied, 3⟩
  | .pla => ⟨0x68, .pla, .implied, 4⟩
  | .plp => ⟨0x28, .plp, .implied, 4⟩
  | .clc => ⟨0x18, .clc, .implied, 2⟩
  | .sec => ⟨0x38, .sec, .implied, 2⟩
  | .cli => ⟨0x58, .cli, .implied, 2⟩
  | .sei => ⟨0x78, .sei, .implied, 2⟩
  | .cld => ⟨0xD8, .cld, .implied, 2⟩
  | .sed => ⟨0xF8, .sed, .implied, 2⟩
  | .clv => ⟨0xB8, .clv, .implied, 2⟩

/-- The operand bytes' value: none, one byte or a 16-bit address. -/
inductive Operand where
  | none
  | byte (b : Byte)
  | word (w : Addr)
  deriving DecidableEq, Repr

/-- The operand of an instruction. -/
def Instr.operand : Instr → Operand
  | .tax | .tay | .txa | .tya | .tsx | .txs | .inx | .iny | .dex | .dey | .aslAcc | .lsrAcc | .rolAcc | .rorAcc
    | .rts | .rti | .brk | .nop | .pha | .php | .pla | .plp | .clc | .sec | .cli | .sei | .cld | .sed | .clv => .none
  | .ldaIndX b | .ldaZp b | .ldaImm b | .ldaIndY b | .ldaZpX b | .ldxImm b | .ldxZp b | .ldxZpY b | .ldyImm b
    | .ldyZp b | .ldyZpX b | .staIndX b | .staZp b | .staIndY b | .staZpX b | .stxZp b | .stxZpY b | .styZp b
    | .styZpX b | .adcIndX b | .adcZp b | .adcImm b | .adcIndY b | .adcZpX b | .sbcIndX b | .sbcZp b | .sbcImm b
    | .sbcIndY b | .sbcZpX b | .cmpIndX b | .cmpZp b | .cmpImm b | .cmpIndY b | .cmpZpX b | .cpxImm b | .cpxZp b
    | .cpyImm b | .cpyZp b | .incZp b | .incZpX b | .decZp b | .decZpX b | .andIndX b | .andZp b | .andImm b
    | .andIndY b | .andZpX b | .oraIndX b | .oraZp b | .oraImm b | .oraIndY b | .oraZpX b | .eorIndX b | .eorZp b
    | .eorImm b | .eorIndY b | .eorZpX b | .bitZp b | .aslZp b | .aslZpX b | .lsrZp b | .lsrZpX b | .rolZp b
    | .rolZpX b | .rorZp b | .rorZpX b | .bpl b | .bmi b | .bvc b | .bvs b | .bcc b | .bcs b | .bne b | .beq b => .byte b
  | .ldaAbs w | .ldaAbsY w | .ldaAbsX w | .ldxAbs w | .ldxAbsY w | .ldyAbs w | .ldyAbsX w | .staAbs w | .staAbsY w
    | .staAbsX w | .stxAbs w | .styAbs w | .adcAbs w | .adcAbsY w | .adcAbsX w | .sbcAbs w | .sbcAbsY w | .sbcAbsX w
    | .cmpAbs w | .cmpAbsY w | .cmpAbsX w | .cpxAbs w | .cpyAbs w | .incAbs w | .incAbsX w | .decAbs w | .decAbsX w
    | .andAbs w | .andAbsY w | .andAbsX w | .oraAbs w | .oraAbsY w | .oraAbsX w | .eorAbs w | .eorAbsY w
    | .eorAbsX w | .bitAbs w | .aslAbs w | .aslAbsX w | .lsrAbs w | .lsrAbsX w | .rolAbs w | .rolAbsX w | .rorAbs w
    | .rorAbsX w | .jmpAbs w | .jmpInd w | .jsr w => .word w

/-- The 16-bit argument the operand bytes are assembled into (R83): 0 without an operand. -/
def Instr.arg (i : Instr) : Addr :=
  match i.operand with
  | .none => 0
  | .byte b => zext16 b
  | .word w => w

/-- The instruction's mnemonic. -/
def Instr.mnemonic (i : Instr) : Mnemonic := i.variant.mnemonic

/-- The instruction's addressing mode. -/
def Instr.mode (i : Instr) : Mode := i.variant.mode

/-- The instruction's length in bytes (R81). -/
def Instr.length (i : Instr) : Nat := i.mode.length

/-- The instruction in a slot, with operand zero; none for an unassigned slot. -/
def Slot.sample : Slot → Option Instr
  | .unassigned => none
  | .noOperand i => some i
  | .byteOperand build => some (build 0)
  | .wordOperand build => some (build 0)

/-- `lookup_by_opcode` (R87): the variant of an opcode byte, or none. -/
def lookupByOpcode (opcode : Byte) : Option Variant := (dispatchMap opcode).sample.map Instr.variant

/-- The whole catalog: the variants of the assigned opcodes, in opcode order (R84). -/
def catalog : List Variant := (List.range 256).filterMap fun n => lookupByOpcode (BitVec.ofNat 8 n)

/-- `lookup_by_name_and_mode` (R87): the variant of a mnemonic in a mode; a mnemonic with exactly one variant answers
with it whatever mode is asked for. -/
def lookupByNameAndMode (name : Mnemonic) (mode : Mode) : Option Variant :=
  match catalog.filter (fun v => v.mnemonic = name) with
  | [only] => some only
  | many => many.find? (fun v => v.mode = mode)

/-! ### The encoder (R80, R83) -/

/-- The bytes of an instruction: the catalog's opcode, then the operand, low byte first. -/
def encode (i : Instr) : List Byte :=
  match i.operand with
  | .none => [i.variant.opcode]
  | .byte b => [i.variant.opcode, b]
  | .word w => [i.variant.opcode, loByte w, hiByte w]

end Sys2Proof
end

