-- ==== Sys2Proof/Machine/State.lean ====
section
/-! DEFINITION. The state of the machine as plain data, its faults and refusals, and the state after reset (10_state,
60_exceptions R300 to R308, 70_reset R340 to R342). -/

namespace Sys2Proof.Machine

/-- P: the six flags (R25). Bits 5 and 4 are not storage (R26); `Flags.toByte` gives the 8-bit image. -/
structure Flags where
  /-- Negative, bit 7. -/
  n : Bool
  /-- oVerflow, bit 6. -/
  v : Bool
  /-- Decimal, bit 3. -/
  d : Bool
  /-- Interrupt-disable, bit 2; it masks nothing (R310). -/
  i : Bool
  /-- Zero, bit 1. -/
  z : Bool
  /-- Carry, bit 0. -/
  c : Bool
  deriving DecidableEq, Repr

/-- The direction of a bus access, as `InvalidAddress` records it (R304). -/
inductive Direction where
  | read
  | write
  deriving DecidableEq, Repr

/-- A fault's name and info (R301 to R308); `FaultRecord.code` gives its number. -/
inductive FaultRecord where
  /-- Code 1 (R301). Raised by: the opcode fetch, on an unassigned byte. Safe: the spec ends the run there. -/
  | unknownOpcode (opcode : Byte) (a0 : Addr)
  /-- Code 2 (R302). Raised by: any bus read a peripheral's callback fails. Safe: the spec ends the run there. -/
  | peripheralReadError (addr : Addr)
  /-- Code 3 (R303). Raised by: any bus write a peripheral's callback fails. Safe: the spec ends the run there. -/
  | peripheralWriteError (addr : Addr) (value : Byte)
  /-- Code 4 (R304). Raised by: any bus access below P_RESERVED_LIMIT. Safe: the spec ends the run there. -/
  | invalidAddress (addr : Addr) (access : Direction)
  /-- Code 5 (R306). Raised by: nothing the core runs (the mode tags are a closed set, R90); an operation asked for an
  effective address in a mode without one would raise it. Safe. -/
  | invalidAddressingMode (mode : Mode)
  /-- Code 6 (R305). Raised by: ADC and SBC with D = 1 under P_DECIMAL_POLICY = fault. Safe: the spec ends the run there. -/
  | decimalModeUnsupported (opcode : Byte) (a0 : Addr)
  deriving DecidableEq, Repr

/-- Why a run stopped normally (R36). -/
inductive StopReason where
  | endAddress
  | stepBudget
  | brk
  deriving DecidableEq, Repr

/-- The run status (R36). -/
inductive RunStatus where
  | running
  | stopped (reason : StopReason)
  | faulted (record : FaultRecord)
  deriving DecidableEq, Repr

/-- RAM (R51): the listed bytes, addresses strictly rising, none equal to what an unlisted address reads as
(`Memory.blank`); `Memory.wf` says so. -/
abbrev Memory := List Host.Cell

/-- The state of the machine: every piece of state of 10_state, RAM (R51), the configuration (R6) and the peripherals'
access history (R55). The Instruction Fragment is local to the step, as R35 allows. -/
structure State where
  /-- A, the accumulator (R21). -/
  a : Byte
  /-- X (R22). -/
  x : Byte
  /-- Y (R22). -/
  y : Byte
  /-- S, the stack pointer (R23). -/
  sp : Byte
  /-- PC (R24). -/
  pc : Addr
  /-- P, the status register (R25). -/
  p : Flags
  /-- RAM (R51). -/
  ram : Memory
  /-- The cycles of the completed instructions (R34). -/
  cycles : Nat
  /-- The number of completed instructions (R37). -/
  steps : Nat
  /-- The run status (R36). -/
  status : RunStatus
  /-- Whether reset has been called at least once (R342). -/
  resetDone : Bool
  /-- The accesses the peripherals have seen, newest first (R55). -/
  periphLog : List PeripheralAccess
  /-- The parameters of R6, fixed for a run (R343). -/
  cfg : Config
  deriving DecidableEq, Repr

/-- The machine stopped with a fault (R300). -/
inductive Fault where
  /-- The fault's code and info, and the state it leaves: what came before the faulting point is done, nothing after it,
  and the status is `faulted record` (R300). Raised by: whatever raises `record` (see `FaultRecord`), and by every
  further step of a faulted machine until reset (R131). Safe: the spec ends the run. -/
  | raised (record : FaultRecord) (left : State)
  deriving DecidableEq, Repr

/-- Why the machine refuses to step. -/
inductive Refusal where
  /-- Raised by: an arm of `exec` whose instruction has no meaning yet; no arm does. Safe. -/
  | notModelled (mnemonic : String)
  /-- Raised by: a step before the first reset (R342, D23). Safe: the spec refuses it. -/
  | notReset
  /-- Raised by: a step under a configuration whose peripheral ranges overlap or are reversed (R56). Safe: the spec
  refuses it. -/
  | illFormedConfiguration
  deriving DecidableEq, Repr

/-- The state right after reset (R38, R340) of a machine with the default configuration and nothing written to its RAM.
PC and S are P_LOAD_ADDR and P_STACK_INIT of `Config.default`. DESIGN CHOICE (log entries 1, 2 and 5): the spec leaves
those two values, the RAM contents and the earlier peripheral history open. -/
def State.reset : State where
  a := 0x00
  x := 0x00
  y := 0x00
  sp := Config.default.stackInit
  pc := Config.default.loadAddr
  p := { n := false, v := false, d := false, i := false, z := false, c := false }
  ram := []
  cycles := 0
  steps := 0
  status := .running
  resetDone := true
  periphLog := []
  cfg := Config.default

end Sys2Proof.Machine
end

