-- ==== Sys2Proof/Machine/Flags.lean ====
section
/-! DEFINITION. The image of P (10_state R26), SetNZ (R27) and the ALU primitives (40_sequencer R123, R125, R126). -/

namespace Sys2Proof.Machine

/-- `Pbyte` (R26): bit 5 reads 1 and bit 4 reads 0. -/
def Flags.toByte (p : Flags) : Byte :=
  BitVec.ofBool p.n ++ BitVec.ofBool p.v ++ 1#1 ++ 0#1 ++
    BitVec.ofBool p.d ++ BitVec.ofBool p.i ++ BitVec.ofBool p.z ++ BitVec.ofBool p.c

/-- The flags loaded from a byte by PLP and RTI; its bits 5 and 4 are ignored (R26). -/
def Flags.ofByte (b : Byte) : Flags where
  n := b.getLsbD 7
  v := b.getLsbD 6
  d := b.getLsbD 3
  i := b.getLsbD 2
  z := b.getLsbD 1
  c := b.getLsbD 0

/-- The copy of P that PHP and BRK push: `Pbyte | 0x10` (R261, R243, D8). -/
def Flags.pushed (p : Flags) : Byte := p.toByte ||| 0x10

/-- SetNZ (R27). -/
def Flags.setNZ (v : Byte) (p : Flags) : Flags := { p with z := decide (v = 0), n := v.getLsbD 7 }

/-- A result byte with carry and overflow bits. -/
structure AluResult where
  r : Byte
  c : Bool
  v : Bool
  deriving DecidableEq, Repr

/-- AddCore (R123): the exact sum, its low byte, the carry above 255, and two's-complement overflow. -/
def addCore (a m : Byte) (cin : Bool) : AluResult :=
  let sum := a.toNat + m.toNat + cin.toNat
  let r := BitVec.ofNat 8 sum
  { r := r, c := decide (255 < sum), v := ((a ^^^ r) &&& (m ^^^ r)).getLsbD 7 }

/-- The flag writes of ADC and SBC (R170, R171): C and V from the sum, then SetNZ. -/
def Flags.setSum (s : AluResult) (p : Flags) : Flags := Flags.setNZ s.r { p with c := s.c, v := s.v }

/-- CompareCore (R125): C and SetNZ of `r + (255 - m) + 1`; V is not written and the old carry is not read. -/
def Flags.compare (r m : Byte) (p : Flags) : Flags :=
  let sum := r.toNat + (255 - m.toNat) + 1
  Flags.setNZ (BitVec.ofNat 8 sum) { p with c := decide (255 < sum) }

/-- A shift's result byte and carry-out. -/
structure ShiftResult where
  r : Byte
  c : Bool
  deriving DecidableEq, Repr

/-- ASLop (R126). The carry-in is not used. -/
def aslOp (v : Byte) (_cin : Bool) : ShiftResult := { r := v <<< 1, c := v.getLsbD 7 }

/-- LSRop (R126). The carry-in is not used. -/
def lsrOp (v : Byte) (_cin : Bool) : ShiftResult := { r := v >>> 1, c := v.getLsbD 0 }

/-- ROLop (R126): the old carry enters bit 0. -/
def rolOp (v : Byte) (cin : Bool) : ShiftResult :=
  { r := (v <<< 1) ||| (BitVec.ofBool cin).setWidth 8, c := v.getLsbD 7 }

/-- RORop (R126): the old carry enters bit 7. -/
def rorOp (v : Byte) (cin : Bool) : ShiftResult :=
  { r := (v >>> 1) ||| ((BitVec.ofBool cin).setWidth 8 <<< 7), c := v.getLsbD 0 }

/-- The flag writes of a shift or rotate (43_logic_shift section 2): C from the carry-out, then SetNZ. -/
def Flags.setShift (s : ShiftResult) (p : Flags) : Flags := Flags.setNZ s.r { p with c := s.c }

end Sys2Proof.Machine
end

