-- ==== Sys2Proof/Machine/Ops.lean ====
section
/-! DEFINITION. The named operations over registers, RAM and the bus: register updates, memory, MemRead and MemWrite
(20_memory R54), fetch (R58), Push and Pull (10_state R31, R32), raising a fault (60_exceptions R300), the BRK entry and
the RTI return (44_control R243, R233), and the host's operations: reset, Loader, debug read (R340, R53, R130). -/

namespace Sys2Proof.Machine

/-! ### Register updates -/

/-- `A <- v`. -/
def State.setA (v : Byte) (s : State) : State := { s with a := v }
/-- `X <- v`. -/
def State.setX (v : Byte) (s : State) : State := { s with x := v }
/-- `Y <- v`. -/
def State.setY (v : Byte) (s : State) : State := { s with y := v }
/-- `S <- v`. -/
def State.setSp (v : Byte) (s : State) : State := { s with sp := v }
/-- `PC <- v`. -/
def State.setPc (v : Addr) (s : State) : State := { s with pc := v }
/-- All of P. -/
def State.setP (p : Flags) (s : State) : State := { s with p := p }
/-- SetNZ on the state's P (R27). -/
def State.setNZ (v : Byte) (s : State) : State := s.setP (Flags.setNZ v s.p)
/-- RAM. -/
def State.setRam (m : Memory) (s : State) : State := { s with ram := m }
/-- The run status (R36). -/
def State.setStatus (r : RunStatus) (s : State) : State := { s with status := r }
/-- A peripheral has seen an access (R55). -/
def State.logAccess (e : PeripheralAccess) (s : State) : State := { s with periphLog := e :: s.periphLog }

/-- Finalize (R107): the cost is added to `cycles` and `steps` increases by 1. -/
def State.finalize (cost : Nat) (s : State) : State := { s with cycles := s.cycles + cost, steps := s.steps + 1 }

/-! ### RAM as a sorted list -/

/-- What an unlisted byte of RAM reads as. DESIGN CHOICE (log entry 2): the spec leaves power-on RAM open (R52). -/
def Memory.blank : Byte := 0x00

/-- The listed addresses are at least `lo`, strictly rising and below 65,536 (R50), and no listed byte is blank. -/
def Memory.wfFrom : Nat → Memory → Bool
  | _, [] => true
  | lo, (k, v) :: rest =>
    decide (lo ≤ k) && decide (k < 65536) && decide (v ≠ Memory.blank) && Memory.wfFrom (k + 1) rest

/-- The canonical form of RAM: equal memories are equal lists. -/
def Memory.wf (m : Memory) : Bool := Memory.wfFrom 0 m

/-- `RAM[a]`. -/
def Memory.read : Memory → Nat → Byte
  | [], _ => Memory.blank
  | (k, v) :: rest, a => if k = a then v else Memory.read rest a

/-- `RAM[a] <- v`, keeping the canonical form. -/
def Memory.write : Memory → Nat → Byte → Memory
  | [], a, v => if v = Memory.blank then [] else [(a, v)]
  | (k, w) :: rest, a, v =>
    if a < k then
      if v = Memory.blank then (k, w) :: rest else (a, v) :: (k, w) :: rest
    else if a = k then
      if v = Memory.blank then rest else (k, v) :: rest
    else (k, w) :: Memory.write rest a v

/-- The debug read of a RAM byte: no callback, no side effect (R130). -/
def State.peek (s : State) (a : Addr) : Byte := s.ram.read a.toNat

/-- A write of a RAM byte, past the bus (the RAM branch of R54, and the Loader, R53). -/
def State.poke (a : Addr) (v : Byte) (s : State) : State := s.setRam (s.ram.write a.toNat v)

/-! ### Faults (R300) -/

/-- The code of a fault (R308). -/
def FaultRecord.code : FaultRecord → Nat
  | .unknownOpcode _ _ => 1
  | .peripheralReadError _ => 2
  | .peripheralWriteError _ _ => 3
  | .invalidAddress _ _ => 4
  | .invalidAddressingMode _ => 5
  | .decimalModeUnsupported _ _ => 6

/-- `raise Fault(record)` in state `s`: the status becomes `faulted record`; everything done before stands (R300). -/
def State.raise (record : FaultRecord) (s : State) : Fault := .raised record (s.setStatus (.faulted record))

/-- The outcome of part of an instruction: a value and the state so far, or a fault. -/
inductive Run (α : Type) where
  | done (value : α) (s : State)
  | failed (f : Fault)
  deriving DecidableEq, Repr

/-- Go on after a part that is done; a fault ends the instruction at once (R300). -/
def Run.andThen {α β : Type} (r : Run α) (k : α → State → Run β) : Run β :=
  match r with
  | .done v s => k v s
  | .failed f => .failed f

/-! ### The bus (R54) -/

/-- The peripheral that claims an address, if one does; unique in a well-formed configuration (R56). -/
def State.peripheralAt (s : State) (a : Addr) : Option Peripheral :=
  s.cfg.peripherals.find? fun p => decide (p.first ≤ a) && decide (a ≤ p.last)

/-- The accesses a device has seen, newest first (R55). -/
def State.deviceHistory (s : State) (device : Nat) : List PeripheralAccess :=
  s.periphLog.filter fun e => e.device = device

/-- `MemRead(a, 1)` (R54): the reserved limit first (R57), then the peripheral that claims `a`, then RAM. -/
def memRead (a : Addr) (s : State) : Run Byte :=
  if a < s.cfg.reservedLimit then
    .failed (s.raise (.invalidAddress a .read))
  else
    match s.peripheralAt a with
    | some p =>
      let seen := s.logAccess { device := p.device, addr := a, kind := .read }
      match Config.readAnswer p.device (s.deviceHistory p.device) a with
      | some b => .done b seen
      | none => .failed (seen.raise (.peripheralReadError a))
    | none => .done (s.peek a) s

/-- `MemWrite(a, 1, v)` (R54): the reserved limit first, then the peripheral that claims `a` (RAM is then not written),
then RAM. -/
def memWrite (a : Addr) (v : Byte) (s : State) : Run Unit :=
  if a < s.cfg.reservedLimit then
    .failed (s.raise (.invalidAddress a .write))
  else
    match s.peripheralAt a with
    | some p =>
      let seen := s.logAccess { device := p.device, addr := a, kind := .write v }
      if Config.writeAnswer p.device (s.deviceHistory p.device) a v then .done () seen
      else .failed (seen.raise (.peripheralWriteError a v))
    | none => .done () (s.poke a v)

/-- A 16-bit pointer read: low byte, then high byte (R59). -/
def readPair (lo hi : Addr) (s : State) : Run Addr :=
  (memRead lo s).andThen fun l s => (memRead hi s).andThen fun h s => .done (hiLo h l) s

/-- `fetch()` (R58): a read at PC, then PC advances; a faulting read leaves PC. -/
def fetch (s : State) : Run Byte := (memRead s.pc s).andThen fun b s => .done b (s.setPc (s.pc + 1))

/-! ### The stack (R30 to R32) -/

/-- The address of a stack slot: page 0x01 (R30). -/
def stackAddr (slot : Byte) : Addr := 0x0100 ||| zext16 slot

/-- `Push(v)` (R31): the write first; S is not decremented if it faults. -/
def push (v : Byte) (s : State) : Run Unit :=
  (memWrite (stackAddr s.sp) v s).andThen fun _ s => .done () (s.setSp (s.sp - 1))

/-- `Pull()` (R32): S is incremented, then the read. -/
def pull (s : State) : Run Byte :=
  let s := s.setSp (s.sp + 1)
  memRead (stackAddr s.sp) s

/-- Push a 16-bit value, high byte first (R59, R231, R243). -/
def pushPair (v : Addr) (s : State) : Run Unit :=
  (push (hiByte v) s).andThen fun _ s => push (loByte v) s

/-- Pull a 16-bit value, low byte first (R232, R233). -/
def pullPair (s : State) : Run Addr :=
  (pull s).andThen fun l s => (pull s).andThen fun h s => .done (hiLo h l) s

/-! ### The BRK entry and the return from it (R243, R312, R313, R233) -/

/-- The entry sequence of BRK in `vector` mode, PC already past the padding byte: push PC and `Pbyte | 0x10`, set I,
load PC from P_BRK_VECTOR (R243, R312). -/
def brkEntry (s : State) : Run Unit :=
  (pushPair s.pc s).andThen fun _ s =>
  (push s.p.pushed s).andThen fun _ s =>
  let s := s.setP { s.p with i := true }
  (readPair s.cfg.brkVector (s.cfg.brkVector + 1) s).andThen fun target s => .done () (s.setPc target)

/-- The return of RTI: P from the stack, then PC, low byte first and with no +1 (R233, R313). -/
def returnFromBreak (s : State) : Run Unit :=
  (pull s).andThen fun b s =>
  let s := s.setP (Flags.ofByte b)
  (pullPair s).andThen fun target s => .done () (s.setPc target)

/-! ### The host's operations (R130): reset, Loader, debug read -/

/-- `reset(load_addr, stack_addr)` (R340): the registers, counters and status; RAM, the configuration and the
peripherals are not touched, and no bus access is made. S takes the low byte of `stackArg` (C10). -/
def State.resetWith (loadArg stackArg : Addr) (s : State) : State :=
  { s with
    a := 0x00, x := 0x00, y := 0x00, sp := loByte stackArg, pc := loadArg,
    p := { n := false, v := false, d := false, i := false, z := false, c := false },
    cycles := 0, steps := 0, status := .running, resetDone := true }

/-- Reset with the arguments the configuration holds: P_LOAD_ADDR and P_STACK_INIT (R340, R344 step 4). -/
def State.resetCore (s : State) : State := s.resetWith s.cfg.loadAddr (zext16 s.cfg.stackInit)

/-- The Loader's `load_bytes` (R53): byte `i` to `(address + i) mod 65536` of RAM, past the bus. R53 lets the host use it
only before the run's first instruction; nothing checks that here. DESIGN CHOICE (log entry 12). The first byte is written
first, which shows only in data longer than 65536 bytes. DEDUCED (log entry 13). -/
def State.loadBytes : Addr → List Byte → State → State
  | _, [], s => s
  | a, b :: rest, s => State.loadBytes (a + 1) rest (s.poke a b)

/-- The Loader's optional end-of-program address becomes P_END_ADDR (R53). R343 fixes P_END_ADDR while Running, and R344
lets it be given after reset, before the run's first instruction; the spec does not say what it does later, and nothing
checks that here: it acts in every state. DESIGN CHOICE (log entry 12). -/
def State.setEndAddr (e : Option Addr) (s : State) : State := { s with cfg := { s.cfg with endAddr := e } }

/-- The machine switched on with a configuration and RAM contents P_INIT_MEM (R52), before its first reset. The registers
are undefined there (R342) and no step can read them: the machine refuses to step. DESIGN CHOICE: zeros (log entry 6). -/
def State.powerOn (cfg : Config) (initMem : Memory) : State where
  a := 0x00
  x := 0x00
  y := 0x00
  sp := 0x00
  pc := 0x0000
  p := { n := false, v := false, d := false, i := false, z := false, c := false }
  ram := initMem
  cycles := 0
  steps := 0
  status := .running
  resetDone := false
  periphLog := []
  cfg := cfg

/-- The boot sequence of R344: a configuration, the Loader, then reset. -/
def State.boot (cfg : Config) (initMem : Memory) (program : List Byte) : State :=
  ((State.powerOn cfg initMem).loadBytes cfg.loadAddr program).resetCore

end Sys2Proof.Machine
end

