-- ==== Sys2Proof/Machine/Operands.lean ====
section
/-! DEFINITION. The address resolver (40_sequencer R105, R110 to R122), the operand read (R119) and the page-crossing
penalty (R127). -/

namespace Sys2Proof.Machine

/-- What the resolver answers: the effective address, absent for a mode without one, and the page-crossing signal
NeedExtraCycle (R105). -/
structure Resolved where
  ea    : Option Addr
  cross : Bool
  deriving DecidableEq, Repr

/-- `ZP(o)` (R111): zero-page byte `o`, at P_ZP_BASE with its low byte cleared. -/
def State.zp (s : State) (o : Byte) : Addr := (s.cfg.zpBase &&& 0xFF00) ||| zext16 o

/-- Two addresses lie on different pages (R122). -/
def pageCrossed (u v : Addr) : Bool := hiByte u != hiByte v

/-- Indexing a 16-bit base (R114, R117): the carry enters the high byte and the sum wraps modulo 65536. -/
def indexed (base : Addr) (index : Byte) : Resolved :=
  let ea := base + zext16 index
  { ea := some ea, cross := pageCrossed ea base }

/-- The address of the second byte of a JMP indirect pointer: the low byte wraps within the page (R115). -/
def nextInPage (a : Addr) : Addr := hiLo (hiByte a) (loByte a + 1)

/-- `Resolve(mode, arg)` (R110 to R118). -/
def resolve (mode : Mode) (arg : Addr) (s : State) : Run Resolved :=
  match mode with
  | .zeroPage => .done { ea := some (s.zp (loByte arg)), cross := false } s
  | .zeroPageX => .done { ea := some (s.zp (loByte arg + s.x)), cross := false } s
  | .zeroPageY => .done { ea := some (s.zp (loByte arg + s.y)), cross := false } s
  | .absolute => .done { ea := some arg, cross := false } s
  | .absoluteX => .done (indexed arg s.x) s
  | .absoluteY => .done (indexed arg s.y) s
  | .indirect =>
    (readPair arg (nextInPage arg) s).andThen fun p s => .done { ea := some p, cross := false } s
  | .indirectX =>
    let o := loByte arg + s.x
    (readPair (s.zp o) (s.zp (o + 1)) s).andThen fun p s => .done { ea := some p, cross := false } s
  | .indirectY =>
    let o := loByte arg
    (readPair (s.zp o) (s.zp (o + 1)) s).andThen fun base s => .done (indexed base s.y) s
  | .immediate | .accumulator | .implied | .relative => .done { ea := none, cross := false } s

/-- The read class of R127: the instructions that pay the page penalty under `reads_only`. -/
def inReadClass : Mnemonic → Bool
  | .adc | .and | .cmp | .eor | .lda | .ldx | .ldy | .ora | .sbc => true
  | _ => false

/-- `AddrPenalty(mn, mode, cross)` (R127). `cross` is true in the indexed modes only (R122). -/
def addrPenalty (scope : PenaltyScope) (mn : Mnemonic) (cross : Bool) : Nat :=
  if cross && (scope = .allIndexed || inReadClass mn) then 1 else 0

/-- The Instruction Fragment (R35), local to the step: the opcode, its address, the operand bytes, the resolved address
and the penalty cycles so far. -/
structure Fragment where
  opcode : Byte
  a0     : Addr
  arg    : Addr
  ea     : Option Addr
  extra  : Nat
  deriving DecidableEq, Repr

/-- The effective address a behaviour works on. A mode without one cannot come here (R90, R306); it would be
InvalidAddressingMode. -/
def withEa {α : Type} (mode : Mode) (fr : Fragment) (s : State) (k : Addr → Run α) : Run α :=
  match fr.ea with
  | some a => k a
  | none => .failed (s.raise (.invalidAddressingMode mode))

/-- `Operand(mode, arg, ea)` (R119): the immediate byte, or one read at the effective address. -/
def readOperand (mode : Mode) (fr : Fragment) (s : State) : Run Byte :=
  if mode = .immediate then .done (loByte fr.arg) s
  else withEa mode fr s fun a => memRead a s

end Sys2Proof.Machine
end

