-- ==== Sys2Proof/Machine/Sequencer.lean ====
section
/-! DEFINITION. The phases of a step (40_sequencer R100 to R107): the instruction fetch (phases 1 to 3) and, for a decoded
instruction, resolve, execute and finalize (phases 4 to 6). -/

namespace Sys2Proof.Machine

/-- The run-control checks at an instruction boundary of a running machine (R132): the end address, then the step budget. -/
def checkRunControl (s : State) : Option StopReason :=
  if s.cfg.endAddr = some s.pc then some .endAddress
  else
    match s.cfg.stepBudget with
    | some budget => if budget ≤ s.steps then some .stepBudget else none
    | none => none

/-- Phases 1 to 3 (R101 to R103): fetch the opcode, look it up, fetch its operand bytes. An unassigned opcode faults after
PC has advanced past it. -/
def fetchInstr (s : State) : Run Instr :=
  (fetch s).andThen fun opcode s1 =>
  match dispatchMap opcode with
  | .unassigned => .failed (s1.raise (.unknownOpcode opcode s.pc))
  | .noOperand i => .done i s1
  | .byteOperand build => (fetch s1).andThen fun b s2 => .done (build b) s2
  | .wordOperand build =>
    (fetch s1).andThen fun lo s2 => (fetch s2).andThen fun hi s3 => .done (build (hiLo hi lo)) s3

/-- The behaviour of a mnemonic (R106): from the mode, the fragment and the state with PC past the instruction, the
number of extra cycles it adds, and the new state. -/
abbrev Behaviour := Mode → Fragment → State → Run Nat

/-- The fragment of a decoded instruction, PC being past its bytes (R35, R103). -/
def fragmentOf (i : Instr) (s : State) (r : Resolved) : Fragment where
  opcode := i.variant.opcode
  a0     := s.pc - BitVec.ofNat 16 i.length
  arg    := i.arg
  ea     := r.ea
  extra  := addrPenalty s.cfg.pagePenalty i.mnemonic r.cross

/-- Phases 4 to 6 (R105 to R107) of an instruction: resolve its address, run its behaviour, add the cost
`base + AddrPenalty + extra` to `cycles` (R129) and 1 to `steps`. -/
def execute (i : Instr) (behaviour : Behaviour) (s : State) : Host.Outcome State Fault Refusal :=
  let result :=
    (resolve i.mode i.arg s).andThen fun r s1 =>
    let fr := fragmentOf i s r
    (behaviour i.mode fr s1).andThen fun extra s2 => .done (i.variant.base + fr.extra + extra) s2
  match result with
  | .done cost t => .next (t.finalize cost)
  | .failed f => .fault f

/-! ### The shapes of behaviours (R104) -/

/-- The read class: one operand read, then a change of the registers and flags. -/
def readThen (f : Byte → State → State) : Behaviour := fun mode fr s =>
  (readOperand mode fr s).andThen fun m s => .done 0 (f m s)

/-- The store class: one write at the effective address, no read. -/
def storeOf (value : State → Byte) : Behaviour := fun mode fr s =>
  withEa mode fr s fun a => (memWrite a (value s) s).andThen fun _ s => .done 0 s

/-- The common form of the shifts and rotates (43_logic_shift section 2): on A with no bus access, or one read and one
write at the effective address; C and SetNZ only after the write. -/
def shiftBy (op : Byte → Bool → ShiftResult) : Behaviour := fun mode fr s =>
  if mode = .accumulator then
    let o := op s.a s.p.c
    .done 0 ((s.setA o.r).setP (Flags.setShift o s.p))
  else
    withEa mode fr s fun a =>
    (memRead a s).andThen fun v s =>
    let o := op v s.p.c
    (memWrite a o.r s).andThen fun _ s => .done 0 (s.setP (Flags.setShift o s.p))

/-- INC and DEC (R175, R176): one read, one write, then SetNZ. -/
def modifyBy (f : Byte → Byte) : Behaviour := fun mode fr s =>
  withEa mode fr s fun a =>
  (memRead a s).andThen fun v s =>
  (memWrite a (f v) s).andThen fun _ s => .done 0 (s.setNZ (f v))

/-- An instruction with no bus access of its own. -/
def registerOnly (f : State → State) : Behaviour := fun _ _ s => .done 0 (f s)

end Sys2Proof.Machine
end

