-- ==== Sys2Proof/Machine/Arithmetic.lean ====
section
/-! DEFINITION. Arithmetic, compare, increment and decrement (42_arithmetic R170 to R181): one behaviour per mnemonic, one
meaning per opcode. -/

namespace Sys2Proof.Machine

/-- The decimal policy (R124): with D = 1 under P_DECIMAL_POLICY = fault the operand has been read and the instruction
faults before any register write (R305); otherwise D is ignored. -/
def decimalCheck (fr : Fragment) (s : State) : Run Unit :=
  if s.p.d = true ∧ s.cfg.decimalPolicy = .fault then .failed (s.raise (.decimalModeUnsupported fr.opcode fr.a0))
  else .done () s

/-- The common form of ADC and SBC (R170, R171), `f` applied to the operand: A, C and V from AddCore, then SetNZ. -/
def addWith (f : Byte → Byte) : Behaviour := fun mode fr s =>
  (readOperand mode fr s).andThen fun m s =>
  (decimalCheck fr s).andThen fun _ s =>
  let sum := addCore s.a (f m) s.p.c
  .done 0 ((s.setA sum.r).setP (Flags.setSum sum s.p))

/-- ADC (R170): add with carry. -/
def behaveAdc : Behaviour := addWith fun m => m

/-- 61 ADC indirect_x. -/
def execAdcIndX (zp : Byte) (s : State) : Host.Outcome State Fault Refusal :=
  execute (.adcIndX zp) behaveAdc s
/-- 65 ADC zero_page. -/
def execAdcZp (zp : Byte) (s : State) : Host.Outcome State Fault Refusal :=
  execute (.adcZp zp) behaveAdc s
/-- 69 ADC immediate. -/
def execAdcImm (imm : Byte) (s : State) : Host.Outcome State Fault Refusal :=
  execute (.adcImm imm) behaveAdc s
/-- 6D ADC absolute. -/
def execAdcAbs (addr : Addr) (s : State) : Host.Outcome State Fault Refusal :=
  execute (.adcAbs addr) behaveAdc s
/-- 71 ADC indirect_y. -/
def execAdcIndY (zp : Byte) (s : State) : Host.Outcome State Fault Refusal :=
  execute (.adcIndY zp) behaveAdc s
/-- 75 ADC zero_page_x. -/
def execAdcZpX (zp : Byte) (s : State) : Host.Outcome State Fault Refusal :=
  execute (.adcZpX zp) behaveAdc s
/-- 79 ADC absolute_y. -/
def execAdcAbsY (addr : Addr) (s : State) : Host.Outcome State Fault Refusal :=
  execute (.adcAbsY addr) behaveAdc s
/-- 7D ADC absolute_x. -/
def execAdcAbsX (addr : Addr) (s : State) : Host.Outcome State Fault Refusal :=
  execute (.adcAbsX addr) behaveAdc s

/-- SBC (R171): ADC of the one's complement. -/
def behaveSbc : Behaviour := addWith fun m => ~~~m

/-- E1 SBC indirect_x. -/
def execSbcIndX (zp : Byte) (s : State) : Host.Outcome State Fault Refusal :=
  execute (.sbcIndX zp) behaveSbc s
/-- E5 SBC zero_page. -/
def execSbcZp (zp : Byte) (s : State) : Host.Outcome State Fault Refusal :=
  execute (.sbcZp zp) behaveSbc s
/-- E9 SBC immediate. -/
def execSbcImm (imm : Byte) (s : State) : Host.Outcome State Fault Refusal :=
  execute (.sbcImm imm) behaveSbc s
/-- ED SBC absolute. -/
def execSbcAbs (addr : Addr) (s : State) : Host.Outcome State Fault Refusal :=
  execute (.sbcAbs addr) behaveSbc s
/-- F1 SBC indirect_y. -/
def execSbcIndY (zp : Byte) (s : State) : Host.Outcome State Fault Refusal :=
  execute (.sbcIndY zp) behaveSbc s
/-- F5 SBC zero_page_x. -/
def execSbcZpX (zp : Byte) (s : State) : Host.Outcome State Fault Refusal :=
  execute (.sbcZpX zp) behaveSbc s
/-- F9 SBC absolute_y. -/
def execSbcAbsY (addr : Addr) (s : State) : Host.Outcome State Fault Refusal :=
  execute (.sbcAbsY addr) behaveSbc s
/-- FD SBC absolute_x. -/
def execSbcAbsX (addr : Addr) (s : State) : Host.Outcome State Fault Refusal :=
  execute (.sbcAbsX addr) behaveSbc s

/-- CMP (R172): compare A; C, Z, N. -/
def behaveCmp : Behaviour := readThen fun m s => s.setP (Flags.compare s.a m s.p)

/-- C1 CMP indirect_x. -/
def execCmpIndX (zp : Byte) (s : State) : Host.Outcome State Fault Refusal :=
  execute (.cmpIndX zp) behaveCmp s
/-- C5 CMP zero_page. -/
def execCmpZp (zp : Byte) (s : State) : Host.Outcome State Fault Refusal :=
  execute (.cmpZp zp) behaveCmp s
/-- C9 CMP immediate. -/
def execCmpImm (imm : Byte) (s : State) : Host.Outcome State Fault Refusal :=
  execute (.cmpImm imm) behaveCmp s
/-- CD CMP absolute. -/
def execCmpAbs (addr : Addr) (s : State) : Host.Outcome State Fault Refusal :=
  execute (.cmpAbs addr) behaveCmp s
/-- D1 CMP indirect_y. -/
def execCmpIndY (zp : Byte) (s : State) : Host.Outcome State Fault Refusal :=
  execute (.cmpIndY zp) behaveCmp s
/-- D5 CMP zero_page_x. -/
def execCmpZpX (zp : Byte) (s : State) : Host.Outcome State Fault Refusal :=
  execute (.cmpZpX zp) behaveCmp s
/-- D9 CMP absolute_y. -/
def execCmpAbsY (addr : Addr) (s : State) : Host.Outcome State Fault Refusal :=
  execute (.cmpAbsY addr) behaveCmp s
/-- DD CMP absolute_x. -/
def execCmpAbsX (addr : Addr) (s : State) : Host.Outcome State Fault Refusal :=
  execute (.cmpAbsX addr) behaveCmp s

/-- CPX (R173): compare X; C, Z, N. -/
def behaveCpx : Behaviour := readThen fun m s => s.setP (Flags.compare s.x m s.p)

/-- E0 CPX immediate. -/
def execCpxImm (imm : Byte) (s : State) : Host.Outcome State Fault Refusal :=
  execute (.cpxImm imm) behaveCpx s
/-- E4 CPX zero_page. -/
def execCpxZp (zp : Byte) (s : State) : Host.Outcome State Fault Refusal :=
  execute (.cpxZp zp) behaveCpx s
/-- EC CPX absolute. -/
def execCpxAbs (addr : Addr) (s : State) : Host.Outcome State Fault Refusal :=
  execute (.cpxAbs addr) behaveCpx s

/-- CPY (R174): compare Y; C, Z, N. -/
def behaveCpy : Behaviour := readThen fun m s => s.setP (Flags.compare s.y m s.p)

/-- C0 CPY immediate. -/
def execCpyImm (imm : Byte) (s : State) : Host.Outcome State Fault Refusal :=
  execute (.cpyImm imm) behaveCpy s
/-- C4 CPY zero_page. -/
def execCpyZp (zp : Byte) (s : State) : Host.Outcome State Fault Refusal :=
  execute (.cpyZp zp) behaveCpy s
/-- CC CPY absolute. -/
def execCpyAbs (addr : Addr) (s : State) : Host.Outcome State Fault Refusal :=
  execute (.cpyAbs addr) behaveCpy s

/-- INC (R175): increment memory. -/
def behaveInc : Behaviour := modifyBy fun v => v + 1

/-- E6 INC zero_page. -/
def execIncZp (zp : Byte) (s : State) : Host.Outcome State Fault Refusal :=
  execute (.incZp zp) behaveInc s
/-- EE INC absolute. -/
def execIncAbs (addr : Addr) (s : State) : Host.Outcome State Fault Refusal :=
  execute (.incAbs addr) behaveInc s
/-- F6 INC zero_page_x. -/
def execIncZpX (zp : Byte) (s : State) : Host.Outcome State Fault Refusal :=
  execute (.incZpX zp) behaveInc s
/-- FE INC absolute_x. -/
def execIncAbsX (addr : Addr) (s : State) : Host.Outcome State Fault Refusal :=
  execute (.incAbsX addr) behaveInc s

/-- DEC (R176): decrement memory. -/
def behaveDec : Behaviour := modifyBy fun v => v - 1

/-- C6 DEC zero_page. -/
def execDecZp (zp : Byte) (s : State) : Host.Outcome State Fault Refusal :=
  execute (.decZp zp) behaveDec s
/-- CE DEC absolute. -/
def execDecAbs (addr : Addr) (s : State) : Host.Outcome State Fault Refusal :=
  execute (.decAbs addr) behaveDec s
/-- D6 DEC zero_page_x. -/
def execDecZpX (zp : Byte) (s : State) : Host.Outcome State Fault Refusal :=
  execute (.decZpX zp) behaveDec s
/-- DE DEC absolute_x. -/
def execDecAbsX (addr : Addr) (s : State) : Host.Outcome State Fault Refusal :=
  execute (.decAbsX addr) behaveDec s

/-- INX (R177): X <- X + 1, then SetNZ. -/
def behaveInx : Behaviour := registerOnly fun s => (s.setX (s.x + 1)).setNZ (s.x + 1)

/-- E8 INX. -/
def execInx (s : State) : Host.Outcome State Fault Refusal :=
  execute .inx behaveInx s

/-- INY (R178): Y <- Y + 1, then SetNZ. -/
def behaveIny : Behaviour := registerOnly fun s => (s.setY (s.y + 1)).setNZ (s.y + 1)

/-- C8 INY. -/
def execIny (s : State) : Host.Outcome State Fault Refusal :=
  execute .iny behaveIny s

/-- DEX (R179): X <- X - 1, then SetNZ. -/
def behaveDex : Behaviour := registerOnly fun s => (s.setX (s.x - 1)).setNZ (s.x - 1)

/-- CA DEX. -/
def execDex (s : State) : Host.Outcome State Fault Refusal :=
  execute .dex behaveDex s

/-- DEY (R180): Y <- Y - 1, then SetNZ. -/
def behaveDey : Behaviour := registerOnly fun s => (s.setY (s.y - 1)).setNZ (s.y - 1)

/-- 88 DEY. -/
def execDey (s : State) : Host.Outcome State Fault Refusal :=
  execute .dey behaveDey s

end Sys2Proof.Machine
end

