-- ==== Sys2Proof/Machine/Control.lean ====
section
/-! DEFINITION. Jumps, subroutines, RTI, branches, BRK and NOP (44_control R230 to R244): one behaviour per mnemonic, one
meaning per opcode. -/

namespace Sys2Proof.Machine

/-- A conditional branch (R234): PC is the address after it; a taken branch adds 1 cycle, or 2 to another page (R128). -/
def branchIf (cond : Flags → Bool) : Behaviour := fun _ fr s =>
  if cond s.p then
    let target := s.pc + sext16 (loByte fr.arg)
    .done (if pageCrossed target s.pc then 2 else 1) (s.setPc target)
  else .done 0 s

/-- JMP (R230): PC <- ea. -/
def behaveJmp : Behaviour := fun mode fr s => withEa mode fr s fun a => .done 0 (s.setPc a)

/-- 4C JMP absolute. -/
def execJmpAbs (addr : Addr) (s : State) : Host.Outcome State Fault Refusal :=
  execute (.jmpAbs addr) behaveJmp s
/-- 6C JMP indirect. -/
def execJmpInd (addr : Addr) (s : State) : Host.Outcome State Fault Refusal :=
  execute (.jmpInd addr) behaveJmp s

/-- JSR (R231): push the address of its last byte, PC <- arg. -/
def behaveJsr : Behaviour := fun _ fr s =>
  (pushPair (s.pc - 1) s).andThen fun _ s => .done 0 (s.setPc fr.arg)

/-- 20 JSR absolute. -/
def execJsr (addr : Addr) (s : State) : Host.Outcome State Fault Refusal :=
  execute (.jsr addr) behaveJsr s

/-- RTS (R232): pull PC and add 1. -/
def behaveRts : Behaviour := fun _ _ s =>
  (pullPair s).andThen fun target s => .done 0 (s.setPc (target + 1))

/-- 60 RTS. -/
def execRts (s : State) : Host.Outcome State Fault Refusal :=
  execute .rts behaveRts s

/-- RTI (R233): pull P, then PC. -/
def behaveRti : Behaviour := fun _ _ s => (returnFromBreak s).andThen fun _ s => .done 0 s

/-- 40 RTI. -/
def execRti (s : State) : Host.Outcome State Fault Refusal :=
  execute .rti behaveRti s

/-- BPL (R235): branch if N = 0. -/
def behaveBpl : Behaviour := branchIf fun p => !p.n

/-- 10 BPL relative. -/
def execBpl (rel : Byte) (s : State) : Host.Outcome State Fault Refusal :=
  execute (.bpl rel) behaveBpl s

/-- BMI (R236): branch if N = 1. -/
def behaveBmi : Behaviour := branchIf fun p => p.n

/-- 30 BMI relative. -/
def execBmi (rel : Byte) (s : State) : Host.Outcome State Fault Refusal :=
  execute (.bmi rel) behaveBmi s

/-- BVC (R237): branch if V = 0. -/
def behaveBvc : Behaviour := branchIf fun p => !p.v

/-- 50 BVC relative. -/
def execBvc (rel : Byte) (s : State) : Host.Outcome State Fault Refusal :=
  execute (.bvc rel) behaveBvc s

/-- BVS (R238): branch if V = 1. -/
def behaveBvs : Behaviour := branchIf fun p => p.v

/-- 70 BVS relative. -/
def execBvs (rel : Byte) (s : State) : Host.Outcome State Fault Refusal :=
  execute (.bvs rel) behaveBvs s

/-- BCC (R239): branch if C = 0. -/
def behaveBcc : Behaviour := branchIf fun p => !p.c

/-- 90 BCC relative. -/
def execBcc (rel : Byte) (s : State) : Host.Outcome State Fault Refusal :=
  execute (.bcc rel) behaveBcc s

/-- BCS (R240): branch if C = 1. -/
def behaveBcs : Behaviour := branchIf fun p => p.c

/-- B0 BCS relative. -/
def execBcs (rel : Byte) (s : State) : Host.Outcome State Fault Refusal :=
  execute (.bcs rel) behaveBcs s

/-- BNE (R241): branch if Z = 0. -/
def behaveBne : Behaviour := branchIf fun p => !p.z

/-- D0 BNE relative. -/
def execBne (rel : Byte) (s : State) : Host.Outcome State Fault Refusal :=
  execute (.bne rel) behaveBne s

/-- BEQ (R242): branch if Z = 1. -/
def behaveBeq : Behaviour := branchIf fun p => p.z

/-- F0 BEQ relative. -/
def execBeq (rel : Byte) (s : State) : Host.Outcome State Fault Refusal :=
  execute (.beq rel) behaveBeq s

/-- BRK (R243): PC past the padding byte; then, by P_BRK_MODE, the run stops with Stopped(Brk) (R311) or the entry sequence runs (R312). -/
def behaveBrk : Behaviour := fun _ _ s =>
  let s := s.setPc (s.pc + 1)
  match s.cfg.brkMode with
  | .signalStop => .done 0 (s.setStatus (.stopped .brk))
  | .vector => (brkEntry s).andThen fun _ s => .done 0 s

/-- 00 BRK. -/
def execBrk (s : State) : Host.Outcome State Fault Refusal :=
  execute .brk behaveBrk s

/-- NOP (R244): nothing. -/
def behaveNop : Behaviour := registerOnly fun s => s

/-- EA NOP. -/
def execNop (s : State) : Host.Outcome State Fault Refusal :=
  execute .nop behaveNop s

end Sys2Proof.Machine
end

