-- ==== Sys2Proof/Machine/LoadStore.lean ====
section
/-! DEFINITION. Loads, stores and register transfers (41_load_store_transfer R140 to R151): one behaviour per mnemonic, one
meaning per opcode. -/

namespace Sys2Proof.Machine

/-- LDA (R140): load accumulator, then SetNZ. -/
def behaveLda : Behaviour := readThen fun m s => (s.setA m).setNZ m

/-- A1 LDA indirect_x. -/
def execLdaIndX (zp : Byte) (s : State) : Host.Outcome State Fault Refusal :=
  execute (.ldaIndX zp) behaveLda s
/-- A5 LDA zero_page. -/
def execLdaZp (zp : Byte) (s : State) : Host.Outcome State Fault Refusal :=
  execute (.ldaZp zp) behaveLda s
/-- A9 LDA immediate. -/
def execLdaImm (imm : Byte) (s : State) : Host.Outcome State Fault Refusal :=
  execute (.ldaImm imm) behaveLda s
/-- AD LDA absolute. -/
def execLdaAbs (addr : Addr) (s : State) : Host.Outcome State Fault Refusal :=
  execute (.ldaAbs addr) behaveLda s
/-- B1 LDA indirect_y. -/
def execLdaIndY (zp : Byte) (s : State) : Host.Outcome State Fault Refusal :=
  execute (.ldaIndY zp) behaveLda s
/-- B5 LDA zero_page_x. -/
def execLdaZpX (zp : Byte) (s : State) : Host.Outcome State Fault Refusal :=
  execute (.ldaZpX zp) behaveLda s
/-- B9 LDA absolute_y. -/
def execLdaAbsY (addr : Addr) (s : State) : Host.Outcome State Fault Refusal :=
  execute (.ldaAbsY addr) behaveLda s
/-- BD LDA absolute_x. -/
def execLdaAbsX (addr : Addr) (s : State) : Host.Outcome State Fault Refusal :=
  execute (.ldaAbsX addr) behaveLda s

/-- LDX (R141): load X, then SetNZ. -/
def behaveLdx : Behaviour := readThen fun m s => (s.setX m).setNZ m

/-- A2 LDX immediate. -/
def execLdxImm (imm : Byte) (s : State) : Host.Outcome State Fault Refusal :=
  execute (.ldxImm imm) behaveLdx s
/-- A6 LDX zero_page. -/
def execLdxZp (zp : Byte) (s : State) : Host.Outcome State Fault Refusal :=
  execute (.ldxZp zp) behaveLdx s
/-- AE LDX absolute. -/
def execLdxAbs (addr : Addr) (s : State) : Host.Outcome State Fault Refusal :=
  execute (.ldxAbs addr) behaveLdx s
/-- B6 LDX zero_page_y. -/
def execLdxZpY (zp : Byte) (s : State) : Host.Outcome State Fault Refusal :=
  execute (.ldxZpY zp) behaveLdx s
/-- BE LDX absolute_y. -/
def execLdxAbsY (addr : Addr) (s : State) : Host.Outcome State Fault Refusal :=
  execute (.ldxAbsY addr) behaveLdx s

/-- LDY (R142): load Y, then SetNZ. -/
def behaveLdy : Behaviour := readThen fun m s => (s.setY m).setNZ m

/-- A0 LDY immediate. -/
def execLdyImm (imm : Byte) (s : State) : Host.Outcome State Fault Refusal :=
  execute (.ldyImm imm) behaveLdy s
/-- A4 LDY zero_page. -/
def execLdyZp (zp : Byte) (s : State) : Host.Outcome State Fault Refusal :=
  execute (.ldyZp zp) behaveLdy s
/-- AC LDY absolute. -/
def execLdyAbs (addr : Addr) (s : State) : Host.Outcome State Fault Refusal :=
  execute (.ldyAbs addr) behaveLdy s
/-- B4 LDY zero_page_x. -/
def execLdyZpX (zp : Byte) (s : State) : Host.Outcome State Fault Refusal :=
  execute (.ldyZpX zp) behaveLdy s
/-- BC LDY absolute_x. -/
def execLdyAbsX (addr : Addr) (s : State) : Host.Outcome State Fault Refusal :=
  execute (.ldyAbsX addr) behaveLdy s

/-- STA (R143): store A; no flag. -/
def behaveSta : Behaviour := storeOf fun s => s.a

/-- 81 STA indirect_x. -/
def execStaIndX (zp : Byte) (s : State) : Host.Outcome State Fault Refusal :=
  execute (.staIndX zp) behaveSta s
/-- 85 STA zero_page. -/
def execStaZp (zp : Byte) (s : State) : Host.Outcome State Fault Refusal :=
  execute (.staZp zp) behaveSta s
/-- 8D STA absolute. -/
def execStaAbs (addr : Addr) (s : State) : Host.Outcome State Fault Refusal :=
  execute (.staAbs addr) behaveSta s
/-- 91 STA indirect_y. -/
def execStaIndY (zp : Byte) (s : State) : Host.Outcome State Fault Refusal :=
  execute (.staIndY zp) behaveSta s
/-- 95 STA zero_page_x. -/
def execStaZpX (zp : Byte) (s : State) : Host.Outcome State Fault Refusal :=
  execute (.staZpX zp) behaveSta s
/-- 99 STA absolute_y. -/
def execStaAbsY (addr : Addr) (s : State) : Host.Outcome State Fault Refusal :=
  execute (.staAbsY addr) behaveSta s
/-- 9D STA absolute_x. -/
def execStaAbsX (addr : Addr) (s : State) : Host.Outcome State Fault Refusal :=
  execute (.staAbsX addr) behaveSta s

/-- STX (R144): store X; no flag. -/
def behaveStx : Behaviour := storeOf fun s => s.x

/-- 86 STX zero_page. -/
def execStxZp (zp : Byte) (s : State) : Host.Outcome State Fault Refusal :=
  execute (.stxZp zp) behaveStx s
/-- 8E STX absolute. -/
def execStxAbs (addr : Addr) (s : State) : Host.Outcome State Fault Refusal :=
  execute (.stxAbs addr) behaveStx s
/-- 96 STX zero_page_y. -/
def execStxZpY (zp : Byte) (s : State) : Host.Outcome State Fault Refusal :=
  execute (.stxZpY zp) behaveStx s

/-- STY (R145): store Y; no flag. -/
def behaveSty : Behaviour := storeOf fun s => s.y

/-- 84 STY zero_page. -/
def execStyZp (zp : Byte) (s : State) : Host.Outcome State Fault Refusal :=
  execute (.styZp zp) behaveSty s
/-- 8C STY absolute. -/
def execStyAbs (addr : Addr) (s : State) : Host.Outcome State Fault Refusal :=
  execute (.styAbs addr) behaveSty s
/-- 94 STY zero_page_x. -/
def execStyZpX (zp : Byte) (s : State) : Host.Outcome State Fault Refusal :=
  execute (.styZpX zp) behaveSty s

/-- TAX (R146): X <- A, then SetNZ. -/
def behaveTax : Behaviour := registerOnly fun s => (s.setX s.a).setNZ s.a

/-- AA TAX. -/
def execTax (s : State) : Host.Outcome State Fault Refusal :=
  execute .tax behaveTax s

/-- TAY (R147): Y <- A, then SetNZ. -/
def behaveTay : Behaviour := registerOnly fun s => (s.setY s.a).setNZ s.a

/-- A8 TAY. -/
def execTay (s : State) : Host.Outcome State Fault Refusal :=
  execute .tay behaveTay s

/-- TXA (R148): A <- X, then SetNZ. -/
def behaveTxa : Behaviour := registerOnly fun s => (s.setA s.x).setNZ s.x

/-- 8A TXA. -/
def execTxa (s : State) : Host.Outcome State Fault Refusal :=
  execute .txa behaveTxa s

/-- TYA (R149): A <- Y, then SetNZ. -/
def behaveTya : Behaviour := registerOnly fun s => (s.setA s.y).setNZ s.y

/-- 98 TYA. -/
def execTya (s : State) : Host.Outcome State Fault Refusal :=
  execute .tya behaveTya s

/-- TSX (R150): X <- S, then SetNZ. -/
def behaveTsx : Behaviour := registerOnly fun s => (s.setX s.sp).setNZ s.sp

/-- BA TSX. -/
def execTsx (s : State) : Host.Outcome State Fault Refusal :=
  execute .tsx behaveTsx s

/-- TXS (R151): S <- X; no flag. -/
def behaveTxs : Behaviour := registerOnly fun s => s.setSp s.x

/-- 9A TXS. -/
def execTxs (s : State) : Host.Outcome State Fault Refusal :=
  execute .txs behaveTxs s

end Sys2Proof.Machine
end

