-- ==== Sys2Proof/Machine/LogicShift.lean ====
section
/-! DEFINITION. Bitwise operations, BIT, shifts and rotates (43_logic_shift R200 to R207): one behaviour per mnemonic, one
meaning per opcode. -/

namespace Sys2Proof.Machine

/-- The flag writes of BIT (R203): Z from `A & m`, N and V from bits 7 and 6 of the operand, independent of each other. -/
def Flags.bitTest (a m : Byte) (p : Flags) : Flags :=
  { p with z := decide (a &&& m = 0), n := m.getLsbD 7, v := m.getLsbD 6 }

/-- AND (R200): A <- A & m, then SetNZ. -/
def behaveAnd : Behaviour := readThen fun m s => (s.setA (s.a &&& m)).setNZ (s.a &&& m)

/-- 21 AND indirect_x. -/
def execAndIndX (zp : Byte) (s : State) : Host.Outcome State Fault Refusal :=
  execute (.andIndX zp) behaveAnd s
/-- 25 AND zero_page. -/
def execAndZp (zp : Byte) (s : State) : Host.Outcome State Fault Refusal :=
  execute (.andZp zp) behaveAnd s
/-- 29 AND immediate. -/
def execAndImm (imm : Byte) (s : State) : Host.Outcome State Fault Refusal :=
  execute (.andImm imm) behaveAnd s
/-- 2D AND absolute. -/
def execAndAbs (addr : Addr) (s : State) : Host.Outcome State Fault Refusal :=
  execute (.andAbs addr) behaveAnd s
/-- 31 AND indirect_y. -/
def execAndIndY (zp : Byte) (s : State) : Host.Outcome State Fault Refusal :=
  execute (.andIndY zp) behaveAnd s
/-- 35 AND zero_page_x. -/
def execAndZpX (zp : Byte) (s : State) : Host.Outcome State Fault Refusal :=
  execute (.andZpX zp) behaveAnd s
/-- 39 AND absolute_y. -/
def execAndAbsY (addr : Addr) (s : State) : Host.Outcome State Fault Refusal :=
  execute (.andAbsY addr) behaveAnd s
/-- 3D AND absolute_x. -/
def execAndAbsX (addr : Addr) (s : State) : Host.Outcome State Fault Refusal :=
  execute (.andAbsX addr) behaveAnd s

/-- ORA (R201): A <- A | m, then SetNZ. -/
def behaveOra : Behaviour := readThen fun m s => (s.setA (s.a ||| m)).setNZ (s.a ||| m)

/-- 01 ORA indirect_x. -/
def execOraIndX (zp : Byte) (s : State) : Host.Outcome State Fault Refusal :=
  execute (.oraIndX zp) behaveOra s
/-- 05 ORA zero_page. -/
def execOraZp (zp : Byte) (s : State) : Host.Outcome State Fault Refusal :=
  execute (.oraZp zp) behaveOra s
/-- 09 ORA immediate. -/
def execOraImm (imm : Byte) (s : State) : Host.Outcome State Fault Refusal :=
  execute (.oraImm imm) behaveOra s
/-- 0D ORA absolute. -/
def execOraAbs (addr : Addr) (s : State) : Host.Outcome State Fault Refusal :=
  execute (.oraAbs addr) behaveOra s
/-- 11 ORA indirect_y. -/
def execOraIndY (zp : Byte) (s : State) : Host.Outcome State Fault Refusal :=
  execute (.oraIndY zp) behaveOra s
/-- 15 ORA zero_page_x. -/
def execOraZpX (zp : Byte) (s : State) : Host.Outcome State Fault Refusal :=
  execute (.oraZpX zp) behaveOra s
/-- 19 ORA absolute_y. -/
def execOraAbsY (addr : Addr) (s : State) : Host.Outcome State Fault Refusal :=
  execute (.oraAbsY addr) behaveOra s
/-- 1D ORA absolute_x. -/
def execOraAbsX (addr : Addr) (s : State) : Host.Outcome State Fault Refusal :=
  execute (.oraAbsX addr) behaveOra s

/-- EOR (R202): A <- A ^ m, then SetNZ. -/
def behaveEor : Behaviour := readThen fun m s => (s.setA (s.a ^^^ m)).setNZ (s.a ^^^ m)

/-- 41 EOR indirect_x. -/
def execEorIndX (zp : Byte) (s : State) : Host.Outcome State Fault Refusal :=
  execute (.eorIndX zp) behaveEor s
/-- 45 EOR zero_page. -/
def execEorZp (zp : Byte) (s : State) : Host.Outcome State Fault Refusal :=
  execute (.eorZp zp) behaveEor s
/-- 49 EOR immediate. -/
def execEorImm (imm : Byte) (s : State) : Host.Outcome State Fault Refusal :=
  execute (.eorImm imm) behaveEor s
/-- 4D EOR absolute. -/
def execEorAbs (addr : Addr) (s : State) : Host.Outcome State Fault Refusal :=
  execute (.eorAbs addr) behaveEor s
/-- 51 EOR indirect_y. -/
def execEorIndY (zp : Byte) (s : State) : Host.Outcome State Fault Refusal :=
  execute (.eorIndY zp) behaveEor s
/-- 55 EOR zero_page_x. -/
def execEorZpX (zp : Byte) (s : State) : Host.Outcome State Fault Refusal :=
  execute (.eorZpX zp) behaveEor s
/-- 59 EOR absolute_y. -/
def execEorAbsY (addr : Addr) (s : State) : Host.Outcome State Fault Refusal :=
  execute (.eorAbsY addr) behaveEor s
/-- 5D EOR absolute_x. -/
def execEorAbsX (addr : Addr) (s : State) : Host.Outcome State Fault Refusal :=
  execute (.eorAbsX addr) behaveEor s

/-- BIT (R203): test bits; Z, N, V. -/
def behaveBit : Behaviour := readThen fun m s => s.setP (Flags.bitTest s.a m s.p)

/-- 24 BIT zero_page. -/
def execBitZp (zp : Byte) (s : State) : Host.Outcome State Fault Refusal :=
  execute (.bitZp zp) behaveBit s
/-- 2C BIT absolute. -/
def execBitAbs (addr : Addr) (s : State) : Host.Outcome State Fault Refusal :=
  execute (.bitAbs addr) behaveBit s

/-- ASL (R204): arithmetic shift left. -/
def behaveAsl : Behaviour := shiftBy aslOp

/-- 06 ASL zero_page. -/
def execAslZp (zp : Byte) (s : State) : Host.Outcome State Fault Refusal :=
  execute (.aslZp zp) behaveAsl s
/-- 0A ASL accumulator. -/
def execAslAcc (s : State) : Host.Outcome State Fault Refusal :=
  execute .aslAcc behaveAsl s
/-- 0E ASL absolute. -/
def execAslAbs (addr : Addr) (s : State) : Host.Outcome State Fault Refusal :=
  execute (.aslAbs addr) behaveAsl s
/-- 16 ASL zero_page_x. -/
def execAslZpX (zp : Byte) (s : State) : Host.Outcome State Fault Refusal :=
  execute (.aslZpX zp) behaveAsl s
/-- 1E ASL absolute_x. -/
def execAslAbsX (addr : Addr) (s : State) : Host.Outcome State Fault Refusal :=
  execute (.aslAbsX addr) behaveAsl s

/-- LSR (R205): logical shift right. -/
def behaveLsr : Behaviour := shiftBy lsrOp

/-- 46 LSR zero_page. -/
def execLsrZp (zp : Byte) (s : State) : Host.Outcome State Fault Refusal :=
  execute (.lsrZp zp) behaveLsr s
/-- 4A LSR accumulator. -/
def execLsrAcc (s : State) : Host.Outcome State Fault Refusal :=
  execute .lsrAcc behaveLsr s
/-- 4E LSR absolute. -/
def execLsrAbs (addr : Addr) (s : State) : Host.Outcome State Fault Refusal :=
  execute (.lsrAbs addr) behaveLsr s
/-- 56 LSR zero_page_x. -/
def execLsrZpX (zp : Byte) (s : State) : Host.Outcome State Fault Refusal :=
  execute (.lsrZpX zp) behaveLsr s
/-- 5E LSR absolute_x. -/
def execLsrAbsX (addr : Addr) (s : State) : Host.Outcome State Fault Refusal :=
  execute (.lsrAbsX addr) behaveLsr s

/-- ROL (R206): rotate left through carry. -/
def behaveRol : Behaviour := shiftBy rolOp

/-- 26 ROL zero_page. -/
def execRolZp (zp : Byte) (s : State) : Host.Outcome State Fault Refusal :=
  execute (.rolZp zp) behaveRol s
/-- 2A ROL accumulator. -/
def execRolAcc (s : State) : Host.Outcome State Fault Refusal :=
  execute .rolAcc behaveRol s
/-- 2E ROL absolute. -/
def execRolAbs (addr : Addr) (s : State) : Host.Outcome State Fault Refusal :=
  execute (.rolAbs addr) behaveRol s
/-- 36 ROL zero_page_x. -/
def execRolZpX (zp : Byte) (s : State) : Host.Outcome State Fault Refusal :=
  execute (.rolZpX zp) behaveRol s
/-- 3E ROL absolute_x. -/
def execRolAbsX (addr : Addr) (s : State) : Host.Outcome State Fault Refusal :=
  execute (.rolAbsX addr) behaveRol s

/-- ROR (R207): rotate right through carry. -/
def behaveRor : Behaviour := shiftBy rorOp

/-- 66 ROR zero_page. -/
def execRorZp (zp : Byte) (s : State) : Host.Outcome State Fault Refusal :=
  execute (.rorZp zp) behaveRor s
/-- 6A ROR accumulator. -/
def execRorAcc (s : State) : Host.Outcome State Fault Refusal :=
  execute .rorAcc behaveRor s
/-- 6E ROR absolute. -/
def execRorAbs (addr : Addr) (s : State) : Host.Outcome State Fault Refusal :=
  execute (.rorAbs addr) behaveRor s
/-- 76 ROR zero_page_x. -/
def execRorZpX (zp : Byte) (s : State) : Host.Outcome State Fault Refusal :=
  execute (.rorZpX zp) behaveRor s
/-- 7E ROR absolute_x. -/
def execRorAbsX (addr : Addr) (s : State) : Host.Outcome State Fault Refusal :=
  execute (.rorAbsX addr) behaveRor s

end Sys2Proof.Machine
end

