-- ==== Sys2Proof/Machine/StackStatus.lean ====
section
/-! DEFINITION. Stack operations and flag instructions (45_stack_status R260 to R270): one behaviour per mnemonic, one
meaning per opcode. -/

namespace Sys2Proof.Machine

/-- PHA (R260): push A. -/
def behavePha : Behaviour := fun _ _ s => (push s.a s).andThen fun _ s => .done 0 s

/-- 48 PHA. -/
def execPha (s : State) : Host.Outcome State Fault Refusal :=
  execute .pha behavePha s

/-- PHP (R261): push `Pbyte | 0x10`. -/
def behavePhp : Behaviour := fun _ _ s => (push s.p.pushed s).andThen fun _ s => .done 0 s

/-- 08 PHP. -/
def execPhp (s : State) : Host.Outcome State Fault Refusal :=
  execute .php behavePhp s

/-- PLA (R262): pull A, then SetNZ. -/
def behavePla : Behaviour := fun _ _ s => (pull s).andThen fun v s => .done 0 ((s.setA v).setNZ v)

/-- 68 PLA. -/
def execPla (s : State) : Host.Outcome State Fault Refusal :=
  execute .pla behavePla s

/-- PLP (R263): pull all six flags. -/
def behavePlp : Behaviour := fun _ _ s => (pull s).andThen fun v s => .done 0 (s.setP (Flags.ofByte v))

/-- 28 PLP. -/
def execPlp (s : State) : Host.Outcome State Fault Refusal :=
  execute .plp behavePlp s

/-- CLC (R264): C <- 0. -/
def behaveClc : Behaviour := registerOnly fun s => s.setP { s.p with c := false }

/-- 18 CLC. -/
def execClc (s : State) : Host.Outcome State Fault Refusal :=
  execute .clc behaveClc s

/-- SEC (R265): C <- 1. -/
def behaveSec : Behaviour := registerOnly fun s => s.setP { s.p with c := true }

/-- 38 SEC. -/
def execSec (s : State) : Host.Outcome State Fault Refusal :=
  execute .sec behaveSec s

/-- CLI (R266): I <- 0. -/
def behaveCli : Behaviour := registerOnly fun s => s.setP { s.p with i := false }

/-- 58 CLI. -/
def execCli (s : State) : Host.Outcome State Fault Refusal :=
  execute .cli behaveCli s

/-- SEI (R267): I <- 1. -/
def behaveSei : Behaviour := registerOnly fun s => s.setP { s.p with i := true }

/-- 78 SEI. -/
def execSei (s : State) : Host.Outcome State Fault Refusal :=
  execute .sei behaveSei s

/-- CLD (R268): D <- 0. -/
def behaveCld : Behaviour := registerOnly fun s => s.setP { s.p with d := false }

/-- D8 CLD. -/
def execCld (s : State) : Host.Outcome State Fault Refusal :=
  execute .cld behaveCld s

/-- SED (R269): D <- 1. -/
def behaveSed : Behaviour := registerOnly fun s => s.setP { s.p with d := true }

/-- F8 SED. -/
def execSed (s : State) : Host.Outcome State Fault Refusal :=
  execute .sed behaveSed s

/-- CLV (R270): V <- 0. -/
def behaveClv : Behaviour := registerOnly fun s => s.setP { s.p with v := false }

/-- B8 CLV. -/
def execClv (s : State) : Host.Outcome State Fault Refusal :=
  execute .clv behaveClv s

end Sys2Proof.Machine
end

