-- ==== Sys2Proof/Machine/Step.lean ====
section
/-! DEFINITION. The step with its run-control checks (40_sequencer R100, R131, R132), and placing a word where it fetches. -/

namespace Sys2Proof.Machine

/-- One instruction (R100): fetch it, then run it. -/
def stepInstr (s : State) : Host.Outcome State Fault Refusal :=
  match fetchInstr s with
  | .done i t => exec i t
  | .failed f => .fault f

/-- One `step()` of the core. An ill-formed configuration (R56) and a machine never reset (R342) are refused; a stopped
or faulted machine does nothing and answers its status (R131); then the end address and the step budget are checked
(R132), and only then is an instruction fetched. -/
def step (s : State) : Host.Outcome State Fault Refusal :=
  if s.cfg.wellFormed = false then .refused .illFormedConfiguration
  else if s.resetDone = false then .refused .notReset
  else
    match s.status with
    | .stopped _ => .next s
    | .faulted record => .fault (.raised record s)
    | .running =>
      match checkRunControl s with
      | some reason => .next (s.setStatus (.stopped reason))
      | none => stepInstr s

/-- `s` with the instruction of a table word in RAM at PC, where `step` fetches it (its bits above `nbits` zero). -/
def State.withFetchWord (s : State) (nbits w : Nat) : State := s.loadBytes s.pc (tableBytes nbits w)

end Sys2Proof.Machine
end

