-- ==== Sys2Proof/Machine/RunLoop.lean ====
section
/-! DEFINITION. `run()` (40_sequencer R130, R133), for a bounded number of steps. -/

namespace Sys2Proof.Machine

/-- `run()`: steps until the status is not Running (R130), at most `fuel` of them. The registers and `cycles` of the
state it answers are the run result (R133); a fault answers the error (R133). -/
def run : Nat → State → Host.Outcome State Fault Refusal
  | 0, s => .next s
  | fuel + 1, s =>
    match step s with
    | .next t => if t.status = .running then run fuel t else .next t
    | .fault f => .fault f
    | .refused r => .refused r

end Sys2Proof.Machine
end

