-- ==== Sys2Proof/Safety.lean ====
section
/-! DEFINITION. What counts as a safe run, in the terms claims use: an access that reaches plain RAM, a completed
instruction, the invariant of the step. -/

namespace Sys2Proof.Machine

/-- An access at `a` reaches RAM: it is not reserved (R57) and no peripheral claims it (R54). -/
abbrev State.plainAt (s : State) (a : Addr) : Prop := ¬ a < s.cfg.reservedLimit ∧ s.peripheralAt a = none

/-- No reserved range and no peripheral: every access reaches RAM (the defaults of R6). -/
abbrev State.ramOnly (s : State) : Prop := s.cfg.reservedLimit = 0 ∧ s.cfg.peripherals = []

/-- The machine may fetch its next instruction: a well-formed configuration, reset done, Running, and no run-control
check stops it (R132). -/
abbrev State.ready (s : State) : Prop :=
  s.cfg.wellFormed = true ∧ s.resetDone = true ∧ s.status = .running ∧ checkRunControl s = none

/-- The run went on: no fault and no refusal. Claims about an end state take this as a premise (R300, I6). -/
abbrev Completed (o : Host.Outcome State Fault Refusal) (t : State) : Prop := o = .next t

/-- The invariant of the step: RAM keeps its canonical form, the cycle count lies between 2 and 8 per completed
instruction (R363), and every logged peripheral access lies in a range bound to that device (R55). -/
structure State.Inv (s : State) : Prop where
  ramForm : s.ram.wf = true
  costLow : 2 * s.steps ≤ s.cycles
  costHigh : s.cycles ≤ 8 * s.steps
  logOwned : ∀ e ∈ s.periphLog, ∃ p ∈ s.cfg.peripherals,
    p.device = e.device ∧ p.first ≤ e.addr ∧ e.addr ≤ p.last

end Sys2Proof.Machine
end

