-- ==== Sys2Proof/Certificates/Slice0/Obligations.lean ====
section
/-! DEFINITION. The statements for the provers, from the numbered rules of spec/. A result statement gives the WHOLE next
state as an update of the state before, so it is also the frame: what it does not name is unchanged. In every statement
about `exec`, PC of `s` is already past the instruction's bytes (40_sequencer R106). -/

open Sys2Proof Sys2Proof.Machine

namespace Sys2Proof.Claims

/-! ### Terms the statements share -/

/-- N and Z of a byte (R27), on its value as a number. -/
def nz (v : Byte) (p : Flags) : Flags := { p with z := decide (v.toNat = 0), n := decide (128 ≤ v.toNat) }

/-- The mnemonics that pay the page penalty under `reads_only` (R127). -/
abbrev paysUnderReadsOnly (mn : Mnemonic) : Prop :=
  mn ∈ [Mnemonic.adc, .and, .cmp, .eor, .lda, .ldx, .ldy, .ora, .sbc]

/-- The cost of an instruction but for a branch (R127, R129): the base count, and 1 for a page crossing it pays for. -/
def cost (i : Instr) (s : State) (cross : Bool) : Nat :=
  i.variant.base + if cross = true ∧ (s.cfg.pagePenalty = .allIndexed ∨ paysUnderReadsOnly i.mnemonic) then 1 else 0

/-- `i` resolves in `s` to the address `a`, crossing a page or not; `t` is the state after the pointer reads (R105). -/
def AddressIs (i : Instr) (s : State) (a : Addr) (cross : Bool) (t : State) : Prop :=
  resolve i.mode i.arg s = .done { ea := some a, cross := cross } t

/-- The operand of the read-class instruction `i` in `s` is readable and is `m` (R119); `log` is the access history
after the pointer and operand reads. -/
def OperandIs (i : Instr) (s : State) (m : Byte) (cross : Bool) (log : List PeripheralAccess) : Prop :=
  ∃ r t u, resolve i.mode i.arg s = .done r t ∧ readOperand i.mode (fragmentOf i s r) t = .done m u ∧
    r.cross = cross ∧ u.periphLog = log

/-- Finalize without a page crossing (R107). -/
def finish (base : Nat) (s : State) : State := { s with cycles := s.cycles + base, steps := s.steps + 1 }

/-- The byte `n mod 65536` of RAM. -/
def ramAt (s : State) (n : Nat) : Nat := (s.ram.read (n % 65536)).toNat

/-- The number of byte `o mod 256` of the zero page (R111). -/
def zpAt (s : State) (o : Nat) : Nat := s.cfg.zpBase.toNat / 256 * 256 + o % 256

/-- The pointer in the zero page at offset `o`, low byte first, wrapping within the page (R116, R117). -/
def zpPointer (s : State) (o : Nat) : Nat := ramAt s (zpAt s o) + 256 * ramAt s (zpAt s (o + 1))

/-- The effective address of each memory mode with operand `arg` on plain RAM, as a number (R111 to R117). -/
def eaNumber (mode : Mode) (arg : Nat) (s : State) : Option Nat :=
  match mode with
  | .zeroPage => some (zpAt s arg)
  | .zeroPageX => some (zpAt s (arg + s.x.toNat))
  | .zeroPageY => some (zpAt s (arg + s.y.toNat))
  | .absolute => some arg
  | .absoluteX => some ((arg + s.x.toNat) % 65536)
  | .absoluteY => some ((arg + s.y.toNat) % 65536)
  | .indirect => some (ramAt s arg + 256 * ramAt s (arg / 256 * 256 + (arg + 1) % 256))
  | .indirectX => some (zpPointer s (arg + s.x.toNat))
  | .indirectY => some ((zpPointer s arg + s.y.toNat) % 65536)
  | .implied | .accumulator | .immediate | .relative => none

/-- Whether the index carries out of the low byte (R110, R122). -/
def crossNumber (mode : Mode) (arg : Nat) (s : State) : Bool :=
  match mode with
  | .absoluteX => decide (256 ≤ arg % 256 + s.x.toNat)
  | .absoluteY => decide (256 ≤ arg % 256 + s.y.toNat)
  | .indirectY => decide (256 ≤ zpPointer s arg % 256 + s.y.toNat)
  | _ => false

/-- The mnemonics whose memory forms write the effective address (R104). -/
abbrev storesAtEa (mn : Mnemonic) : Prop :=
  mn ∈ [Mnemonic.sta, .stx, .sty, .inc, .dec, .asl, .lsr, .rol, .ror]

/-- The stack slot `k` below S (R30, R31). -/
def slot (s : State) (k : Nat) : Addr := stackAddr (s.sp - BitVec.ofNat 8 k)

/-- The addresses `i` stores to in `s` (R104). -/
def storesAt (i : Instr) (s : State) (b : Addr) : Prop :=
  (storesAtEa i.mnemonic ∧ ∃ cross t, AddressIs i s b cross t) ∨
  (i.mnemonic ∈ [Mnemonic.pha, .php] ∧ b = slot s 0) ∨
  (i.mnemonic = .jsr ∧ (b = slot s 0 ∨ b = slot s 1)) ∨
  (i.mnemonic = .brk ∧ s.cfg.brkMode = .vector ∧ (b = slot s 0 ∨ b = slot s 1 ∨ b = slot s 2))

/-- The addresses of the pointer bytes a mode reads, low byte first (R115 to R117). -/
def pointerAt (mode : Mode) (arg : Nat) (s : State) : List Addr :=
  match mode with
  | .indirect => [BitVec.ofNat 16 arg, BitVec.ofNat 16 (arg / 256 * 256 + (arg + 1) % 256)]
  | .indirectX => [BitVec.ofNat 16 (zpAt s (arg + s.x.toNat)), BitVec.ofNat 16 (zpAt s (arg + s.x.toNat + 1))]
  | .indirectY => [BitVec.ofNat 16 (zpAt s arg), BitVec.ofNat 16 (zpAt s (arg + 1))]
  | _ => []

/-- The slot the `k`-th pull from S reads (R30, R32). -/
def pullSlot (s : State) (k : Nat) : Addr := stackAddr (s.sp + BitVec.ofNat 8 k)

/-- The accesses of the behaviour of `i` in `s`, in order, each with whether it is a write; `ea` is its effective
address (R104 item 4). -/
def ownAccesses (i : Instr) (s : State) (ea : Option Addr) : List (Addr × Bool) :=
  match i.mnemonic with
  | .adc | .and | .bit | .cmp | .cpx | .cpy | .eor | .lda | .ldx | .ldy | .ora | .sbc => ea.toList.map fun a => (a, false)
  | .sta | .stx | .sty => ea.toList.map fun a => (a, true)
  | .asl | .lsr | .rol | .ror | .inc | .dec => ea.toList.flatMap fun a => [(a, false), (a, true)]
  | .jsr => [(slot s 0, true), (slot s 1, true)]
  | .rts => [(pullSlot s 1, false), (pullSlot s 2, false)]
  | .rti => [(pullSlot s 1, false), (pullSlot s 2, false), (pullSlot s 3, false)]
  | .pha | .php => [(slot s 0, true)]
  | .pla | .plp => [(pullSlot s 1, false)]
  | .brk =>
    if s.cfg.brkMode = .vector
    then [(slot s 0, true), (slot s 1, true), (slot s 2, true), (s.cfg.brkVector, false), (s.cfg.brkVector + 1, false)]
    else []
  | _ => []

/-- The address of a logged access, and whether it is a write. -/
def accessOf (e : PeripheralAccess) : Addr × Bool := (e.addr, decide (e.kind ≠ .read))

/-- A branch's offset byte, and whether flags `p` take it (R235 to R242). -/
def branchOn (i : Instr) (p : Flags) : Option (Byte × Bool) :=
  match i with
  | .bpl rel => some (rel, !p.n)
  | .bmi rel => some (rel, p.n)
  | .bvc rel => some (rel, !p.v)
  | .bvs rel => some (rel, p.v)
  | .bcc rel => some (rel, !p.c)
  | .bcs rel => some (rel, p.c)
  | .bne rel => some (rel, !p.z)
  | .beq rel => some (rel, p.z)
  | _ => none

/-- The result byte and carry of the four shifts of a byte with carry-in `c`, as numbers (R126). -/
def shiftNumber (mn : Mnemonic) (v : Byte) (c : Bool) : Option (Nat × Bool) :=
  match mn with
  | .asl => some (2 * v.toNat % 256, decide (128 ≤ v.toNat))
  | .lsr => some (v.toNat / 2, decide (v.toNat % 2 = 1))
  | .rol => some (2 * v.toNat % 256 + c.toNat, decide (128 ≤ v.toNat))
  | .ror => some (v.toNat / 2 + 128 * c.toNat, decide (v.toNat % 2 = 1))
  | _ => none

/-- The bytes are read from PC on by bus reads that are done, PC moving past each (R58, R101, R103). -/
def FetchesTo : List Byte → State → State → Prop
  | [], s, t => t = s
  | b :: rest, s, t => ∃ u, memRead s.pc s = .done b u ∧ FetchesTo rest { u with pc := s.pc + 1 } t

/-- An access of `i` at its effective address, or for a pointer byte, that fails ends the instruction with that fault. -/
def MemoryAccessFaults : Prop :=
  ∀ (i : Instr) (s : State) (f : Fault),
    (∀ lo hi, pointerAt i.mode i.arg.toNat s = [lo, hi] → memRead lo s = .failed f → exec i s = .fault f) ∧
    (∀ lo hi l t, pointerAt i.mode i.arg.toNat s = [lo, hi] → memRead lo s = .done l t → memRead hi t = .failed f →
      exec i s = .fault f) ∧
    (∀ a cross t, AddressIs i s a cross t →
      (i.mnemonic ∈ [Mnemonic.adc, .and, .bit, .cmp, .cpx, .cpy, .eor, .lda, .ldx, .ldy, .ora, .sbc] →
        memRead a t = .failed f → exec i s = .fault f) ∧
      (i.mnemonic = .sta → memWrite a s.a t = .failed f → exec i s = .fault f) ∧
      (i.mnemonic = .stx → memWrite a s.x t = .failed f → exec i s = .fault f) ∧
      (i.mnemonic = .sty → memWrite a s.y t = .failed f → exec i s = .fault f) ∧
      (i.mnemonic ∈ [Mnemonic.inc, .dec, .asl, .lsr, .rol, .ror] → memRead a t = .failed f → exec i s = .fault f) ∧
      ∀ v r u, memRead a t = .done v u →
        (i.mnemonic = .inc ∧ r.toNat = (v.toNat + 1) % 256) ∨ (i.mnemonic = .dec ∧ r.toNat = (v.toNat + 255) % 256) ∨
          (∃ c, shiftNumber i.mnemonic v s.p.c = some (r.toNat, c)) →
        memWrite a r u = .failed f → exec i s = .fault f)

/-- A stack access, or a vector read of BRK, that fails ends the instruction with that fault; the accesses before it
are done. -/
def StackAccessFaults : Prop :=
  ∀ (s : State) (f : Fault),
    (memWrite (slot s 0) s.a s = .failed f → exec .pha s = .fault f) ∧
    (∀ v : Byte, v.toNat = s.p.toByte.toNat + 16 → memWrite (slot s 0) v s = .failed f → exec .php s = .fault f) ∧
    (memRead (pullSlot s 1) { s with sp := s.sp + 1 } = .failed f →
      exec .pla s = .fault f ∧ exec .plp s = .fault f ∧ exec .rts s = .fault f ∧ exec .rti s = .fault f) ∧
    (∀ lo t, memRead (pullSlot s 1) { s with sp := s.sp + 1 } = .done lo t →
      memRead (pullSlot s 2) { t with sp := s.sp + 2 } = .failed f → exec .rts s = .fault f) ∧
    (∀ p t, memRead (pullSlot s 1) { s with sp := s.sp + 1 } = .done p t →
      (memRead (pullSlot s 2) { t with sp := s.sp + 2, p := Flags.ofByte p } = .failed f → exec .rti s = .fault f) ∧
      ∀ lo u, memRead (pullSlot s 2) { t with sp := s.sp + 2, p := Flags.ofByte p } = .done lo u →
        memRead (pullSlot s 3) { u with sp := s.sp + 3 } = .failed f → exec .rti s = .fault f) ∧
    (∀ (target : Addr) (hi lo : Byte), (s.pc.toNat + 65535) % 65536 = 256 * hi.toNat + lo.toNat →
      (memWrite (slot s 0) hi s = .failed f → exec (.jsr target) s = .fault f) ∧
      ∀ t, memWrite (slot s 0) hi s = .done () t → memWrite (slot s 1) lo { t with sp := s.sp - 1 } = .failed f →
        exec (.jsr target) s = .fault f) ∧
    (∀ hi lo : Byte, s.cfg.brkMode = .vector → (s.pc.toNat + 1) % 65536 = 256 * hi.toNat + lo.toNat →
      (memWrite (slot s 0) hi { s with pc := s.pc + 1 } = .failed f → exec .brk s = .fault f) ∧
      ∀ s1, memWrite (slot s 0) hi { s with pc := s.pc + 1 } = .done () s1 →
      (memWrite (slot s 1) lo { s1 with sp := s.sp - 1 } = .failed f → exec .brk s = .fault f) ∧
      ∀ s2, memWrite (slot s 1) lo { s1 with sp := s.sp - 1 } = .done () s2 →
      (memWrite (slot s 2) (s.p.toByte ||| 0x30) { s2 with sp := s.sp - 2 } = .failed f → exec .brk s = .fault f) ∧
      ∀ s3, memWrite (slot s 2) (s.p.toByte ||| 0x30) { s2 with sp := s.sp - 2 } = .done () s3 →
      (memRead s.cfg.brkVector { s3 with sp := s.sp - 3, p := { s.p with i := true } } = .failed f →
        exec .brk s = .fault f) ∧
      ∀ tlo s4, memRead s.cfg.brkVector { s3 with sp := s.sp - 3, p := { s.p with i := true } } = .done tlo s4 →
        memRead (s.cfg.brkVector + 1) s4 = .failed f → exec .brk s = .fault f)

/-- A fetch that fails, of the opcode or of an operand byte, ends the step with that fault, PC not past that byte. -/
def FetchFaults : Prop :=
  ∀ (s : State) (f : Fault), s.ready →
    (memRead s.pc s = .failed f → step s = .fault f) ∧
    (∀ op t v, FetchesTo [op] s t → lookupByOpcode op = some v → 2 ≤ v.mode.length → memRead t.pc t = .failed f →
      step s = .fault f) ∧
    ∀ op lo t v, FetchesTo [op, lo] s t → lookupByOpcode op = some v → v.mode.length = 3 → memRead t.pc t = .failed f →
      step s = .fault f

/-- The by-mnemonic table of R84: opcode byte, mnemonic, mode, length in bytes, base cycle count of each of the 151 variants. -/
def opcodeRows : List (Nat × Mnemonic × Mode × Nat × Nat) := List.flatten [
  [(0x69, .adc, .immediate, 2, 2), (0x65, .adc, .zeroPage, 2, 3), (0x75, .adc, .zeroPageX, 2, 4),
    (0x6D, .adc, .absolute, 3, 4), (0x7D, .adc, .absoluteX, 3, 4), (0x79, .adc, .absoluteY, 3, 4),
    (0x61, .adc, .indirectX, 2, 6), (0x71, .adc, .indirectY, 2, 5)],
  [(0x29, .and, .immediate, 2, 2), (0x25, .and, .zeroPage, 2, 3), (0x35, .and, .zeroPageX, 2, 4),
    (0x2D, .and, .absolute, 3, 4), (0x3D, .and, .absoluteX, 3, 4), (0x39, .and, .absoluteY, 3, 4),
    (0x21, .and, .indirectX, 2, 6), (0x31, .and, .indirectY, 2, 5)],
  [(0x0A, .asl, .accumulator, 1, 2), (0x06, .asl, .zeroPage, 2, 5), (0x16, .asl, .zeroPageX, 2, 6),
    (0x0E, .asl, .absolute, 3, 6), (0x1E, .asl, .absoluteX, 3, 7)],
  [(0x90, .bcc, .relative, 2, 2), (0xB0, .bcs, .relative, 2, 2), (0xF0, .beq, .relative, 2, 2)],
  [(0x24, .bit, .zeroPage, 2, 3), (0x2C, .bit, .absolute, 3, 4)],
  [(0x30, .bmi, .relative, 2, 2), (0xD0, .bne, .relative, 2, 2), (0x10, .bpl, .relative, 2, 2),
    (0x00, .brk, .implied, 1, 7), (0x50, .bvc, .relative, 2, 2), (0x70, .bvs, .relative, 2, 2)],
  [(0x18, .clc, .implied, 1, 2), (0xD8, .cld, .implied, 1, 2), (0x58, .cli, .implied, 1, 2),
    (0xB8, .clv, .implied, 1, 2)],
  [(0xC9, .cmp, .immediate, 2, 2), (0xC5, .cmp, .zeroPage, 2, 3), (0xD5, .cmp, .zeroPageX, 2, 4),
    (0xCD, .cmp, .absolute, 3, 4), (0xDD, .cmp, .absoluteX, 3, 4), (0xD9, .cmp, .absoluteY, 3, 4),
    (0xC1, .cmp, .indirectX, 2, 6), (0xD1, .cmp, .indirectY, 2, 5)],
  [(0xE0, .cpx, .immediate, 2, 2), (0xE4, .cpx, .zeroPage, 2, 3), (0xEC, .cpx, .absolute, 3, 4)],
  [(0xC0, .cpy, .immediate, 2, 2), (0xC4, .cpy, .zeroPage, 2, 3), (0xCC, .cpy, .absolute, 3, 4)],
  [(0xC6, .dec, .zeroPage, 2, 5), (0xD6, .dec, .zeroPageX, 2, 6), (0xCE, .dec, .absolute, 3, 6),
    (0xDE, .dec, .absoluteX, 3, 7)],
  [(0xCA, .dex, .implied, 1, 2), (0x88, .dey, .implied, 1, 2)],
  [(0x49, .eor, .immediate, 2, 2), (0x45, .eor, .zeroPage, 2, 3), (0x55, .eor, .zeroPageX, 2, 4),
    (0x4D, .eor, .absolute, 3, 4), (0x5D, .eor, .absoluteX, 3, 4), (0x59, .eor, .absoluteY, 3, 4),
    (0x41, .eor, .indirectX, 2, 6), (0x51, .eor, .indirectY, 2, 5)],
  [(0xE6, .inc, .zeroPage, 2, 5), (0xF6, .inc, .zeroPageX, 2, 6), (0xEE, .inc, .absolute, 3, 6),
    (0xFE, .inc, .absoluteX, 3, 7)],
  [(0xE8, .inx, .implied, 1, 2), (0xC8, .iny, .implied, 1, 2)],
  [(0x4C, .jmp, .absolute, 3, 3), (0x6C, .jmp, .indirect, 3, 5)],
  [(0x20, .jsr, .absolute, 3, 6)],
  [(0xA9, .lda, .immediate, 2, 2), (0xA5, .lda, .zeroPage, 2, 3), (0xB5, .lda, .zeroPageX, 2, 4),
    (0xAD, .lda, .absolute, 3, 4), (0xBD, .lda, .absoluteX, 3, 4), (0xB9, .lda, .absoluteY, 3, 4),
    (0xA1, .lda, .indirectX, 2, 6), (0xB1, .lda, .indirectY, 2, 5)],
  [(0xA2, .ldx, .immediate, 2, 2), (0xA6, .ldx, .zeroPage, 2, 3), (0xB6, .ldx, .zeroPageY, 2, 4),
    (0xAE, .ldx, .absolute, 3, 4), (0xBE, .ldx, .absoluteY, 3, 4)],
  [(0xA0, .ldy, .immediate, 2, 2), (0xA4, .ldy, .zeroPage, 2, 3), (0xB4, .ldy, .zeroPageX, 2, 4),
    (0xAC, .ldy, .absolute, 3, 4), (0xBC, .ldy, .absoluteX, 3, 4)],
  [(0x4A, .lsr, .accumulator, 1, 2), (0x46, .lsr, .zeroPage, 2, 5), (0x56, .lsr, .zeroPageX, 2, 6),
    (0x4E, .lsr, .absolute, 3, 6), (0x5E, .lsr, .absoluteX, 3, 7)],
  [(0xEA, .nop, .implied, 1, 2)],
  [(0x09, .ora, .immediate, 2, 2), (0x05, .ora, .zeroPage, 2, 3), (0x15, .ora, .zeroPageX, 2, 4),
    (0x0D, .ora, .absolute, 3, 4), (0x1D, .ora, .absoluteX, 3, 4), (0x19, .ora, .absoluteY, 3, 4),
    (0x01, .ora, .indirectX, 2, 6), (0x11, .ora, .indirectY, 2, 5)],
  [(0x48, .pha, .implied, 1, 3), (0x08, .php, .implied, 1, 3), (0x68, .pla, .implied, 1, 4),
    (0x28, .plp, .implied, 1, 4)],
  [(0x2A, .rol, .accumulator, 1, 2), (0x26, .rol, .zeroPage, 2, 5), (0x36, .rol, .zeroPageX, 2, 6),
    (0x2E, .rol, .absolute, 3, 6), (0x3E, .rol, .absoluteX, 3, 7)],
  [(0x6A, .ror, .accumulator, 1, 2), (0x66, .ror, .zeroPage, 2, 5), (0x76, .ror, .zeroPageX, 2, 6),
    (0x6E, .ror, .absolute, 3, 6), (0x7E, .ror, .absoluteX, 3, 7)],
  [(0x40, .rti, .implied, 1, 6), (0x60, .rts, .implied, 1, 6)],
  [(0xE9, .sbc, .immediate, 2, 2), (0xE5, .sbc, .zeroPage, 2, 3), (0xF5, .sbc, .zeroPageX, 2, 4),
    (0xED, .sbc, .absolute, 3, 4), (0xFD, .sbc, .absoluteX, 3, 4), (0xF9, .sbc, .absoluteY, 3, 4),
    (0xE1, .sbc, .indirectX, 2, 6), (0xF1, .sbc, .indirectY, 2, 5)],
  [(0x38, .sec, .implied, 1, 2), (0xF8, .sed, .implied, 1, 2), (0x78, .sei, .implied, 1, 2)],
  [(0x85, .sta, .zeroPage, 2, 3), (0x95, .sta, .zeroPageX, 2, 4), (0x8D, .sta, .absolute, 3, 4),
    (0x9D, .sta, .absoluteX, 3, 5), (0x99, .sta, .absoluteY, 3, 5), (0x81, .sta, .indirectX, 2, 6),
    (0x91, .sta, .indirectY, 2, 6)],
  [(0x86, .stx, .zeroPage, 2, 3), (0x96, .stx, .zeroPageY, 2, 4), (0x8E, .stx, .absolute, 3, 4)],
  [(0x84, .sty, .zeroPage, 2, 3), (0x94, .sty, .zeroPageX, 2, 4), (0x8C, .sty, .absolute, 3, 4)],
  [(0xAA, .tax, .implied, 1, 2), (0xA8, .tay, .implied, 1, 2), (0xBA, .tsx, .implied, 1, 2),
    (0x8A, .txa, .implied, 1, 2), (0x9A, .txs, .implied, 1, 2), (0x98, .tya, .implied, 1, 2)]]

/-- ADC and SBC run: D is clear, or the policy is `binary` (R124). -/
def addsInBinary (s : State) : Prop := s.p.d = false ∨ s.cfg.decimalPolicy = .binary

end Sys2Proof.Claims

open Sys2Proof.Claims

/-! ## Encoding and decoding -/

/-- 30_encoding R80, R83, R84: words of each family decode to their instructions, operands low byte first; 0x02 does not. -/
def Obligations.SampleWordsDecode : Prop :=
  decode [0xA9, 0x05] = .instr (.ldaImm 0x05) [] ∧ decode [0x8D, 0x34, 0x12] = .instr (.staAbs 0x1234) [] ∧
  decode [0x96, 0xF8] = .instr (.stxZpY 0xF8) [] ∧ decode [0x71, 0x40] = .instr (.adcIndY 0x40) [] ∧
  decode [0xFE, 0xFF, 0x02] = .instr (.incAbsX 0x02FF) [] ∧ decode [0x6A] = .instr .rorAcc [] ∧
  decode [0x24, 0x10] = .instr (.bitZp 0x10) [] ∧ decode [0x6C, 0xFF, 0x02] = .instr (.jmpInd 0x02FF) [] ∧
  decode [0x20, 0x00, 0x07] = .instr (.jsr 0x0700) [] ∧ decode [0xD0, 0xFB] = .instr (.bne 0xFB) [] ∧
  decode [0x00] = .instr .brk [] ∧ decode [0x28] = .instr .plp [] ∧
  decode [0x02, 0x00, 0x00] = .rejected (.unassignedOpcode 0x02)

/-- 30_encoding R80 to R84: decoding the encoding of any instruction, with any operand and whatever follows, gives it
back with what follows. -/
def Obligations.DecodeOfEncodeIsIdentity : Prop :=
  ∀ (i : Instr) (rest : List Byte), decode (encode i ++ rest) = .instr i rest

/-- 30_encoding R80 to R86: every byte string has at most one reading: what decodes to `i` begins with `encode i`. -/
def Obligations.DecodedBytesAreTheEncoding : Prop :=
  ∀ (bytes : List Byte) (i : Instr) (rest : List Byte), decode bytes = .instr i rest → bytes = encode i ++ rest

/-- 30_encoding R82, R84 to R86: a byte's entry is that of its row of R84 (mnemonic, mode, length, base cycle count) under
its own byte; the bytes with no entry are exactly the 105 listed. -/
def Obligations.OpcodeMapIsR84 : Prop :=
  (∀ (b : Byte) (v : Variant), lookupByOpcode b = some v ↔
    v.opcode = b ∧ (b.toNat, v.mnemonic, v.mode, v.mode.length, v.base) ∈ opcodeRows) ∧
  (∀ b : Byte, lookupByOpcode b = none ↔ b.toNat ∈
    [0x02, 0x03, 0x04, 0x07, 0x0B, 0x0C, 0x0F, 0x12, 0x13, 0x14, 0x17, 0x1A, 0x1B, 0x1C, 0x1F, 0x22, 0x23, 0x27, 0x2B, 0x2F] ++
    [0x32, 0x33, 0x34, 0x37, 0x3A, 0x3B, 0x3C, 0x3F, 0x42, 0x43, 0x44, 0x47, 0x4B, 0x4F, 0x52, 0x53, 0x54, 0x57, 0x5A, 0x5B] ++
    [0x5C, 0x5F, 0x62, 0x63, 0x64, 0x67, 0x6B, 0x6F, 0x72, 0x73, 0x74, 0x77, 0x7A, 0x7B, 0x7C, 0x7F, 0x80, 0x82, 0x83, 0x87] ++
    [0x89, 0x8B, 0x8F, 0x92, 0x93, 0x97, 0x9B, 0x9C, 0x9E, 0x9F, 0xA3, 0xA7, 0xAB, 0xAF, 0xB2, 0xB3, 0xB7, 0xBB, 0xBF, 0xC2] ++
    [0xC3, 0xC7, 0xCB, 0xCF, 0xD2, 0xD3, 0xD4, 0xD7, 0xDA, 0xDB, 0xDC, 0xDF, 0xE2, 0xE3, 0xE7, 0xEB, 0xEF, 0xF2, 0xF3, 0xF4] ++
    [0xF7, 0xFA, 0xFB, 0xFC, 0xFF]) ∧
  ∀ i : Instr, lookupByOpcode i.variant.opcode = some i.variant

/-- 30_encoding R87: `lookup_by_name_and_mode` answers the variant of that name and mode where the catalog has one, only
variants of that name, for a name with one variant that variant, whatever the mode, and else none. -/
def Obligations.NameAndModeLookup : Prop :=
  ∀ (name : Mnemonic) (mode : Mode),
    (∀ v, lookupByNameAndMode name mode = some v → v ∈ catalog ∧ v.mnemonic = name) ∧
    (∀ v ∈ catalog, v.mnemonic = name → v.mode = mode → lookupByNameAndMode name mode = some v) ∧
    (∀ v ∈ catalog, v.mnemonic = name → (∀ w ∈ catalog, w.mnemonic = name → w = v) →
      lookupByNameAndMode name mode = some v) ∧
    (∀ v ∈ catalog, ∀ w ∈ catalog, v.mnemonic = name → w.mnemonic = name → v ≠ w →
      (∀ u ∈ catalog, u.mnemonic = name → u.mode ≠ mode) → lookupByNameAndMode name mode = none)

/-! ## The step, run control, reset -/

/-- 40_sequencer R100 to R103, 20_memory R58: where the bytes fetched from PC, whoever answers the reads, are those of `i`,
the step is `exec i` in the state after the fetches; on plain RAM that is the state with PC past the bytes. -/
def Obligations.StepRunsTheDecodedInstruction : Prop :=
  (∀ (s t : State) (i : Instr) (bytes : List Byte), s.ready → decode bytes = .instr i [] → FetchesTo bytes s t →
    step s = exec i t) ∧
  ∀ (s : State) (i : Instr) (rest : List Byte), s.ready →
    decode [s.peek s.pc, s.peek (s.pc + 1), s.peek (s.pc + 2)] = .instr i rest →
    (∀ k < i.length, s.plainAt (s.pc + BitVec.ofNat 16 k)) →
    step s = exec i { s with pc := s.pc + BitVec.ofNat 16 i.length }

/-- 40_sequencer R101, 60_exceptions R301: an unassigned opcode byte faults with the byte and its address, PC past it, whoever
answers the fetch; on plain RAM nothing else has changed. -/
def Obligations.UnassignedOpcodeFaults : Prop :=
  (∀ (s t : State) (b : Byte) (record : FaultRecord), s.ready → FetchesTo [b] s t → lookupByOpcode b = none →
    record = .unknownOpcode b s.pc → step s = .fault (.raised record { t with status := .faulted record })) ∧
  ∀ s : State, s.ready → s.plainAt s.pc → lookupByOpcode (s.peek s.pc) = none →
    step s = .fault (.raised (.unknownOpcode (s.peek s.pc) s.pc)
      { s with pc := s.pc + 1, status := .faulted (.unknownOpcode (s.peek s.pc) s.pc) })

/-- 40_sequencer R131 (the spec's decision D14): a stopped or faulted machine does nothing and answers its status. -/
def Obligations.StoppedOrFaultedStepDoesNothing : Prop :=
  ∀ s : State, s.cfg.wellFormed = true → s.resetDone = true →
    (∀ reason, s.status = .stopped reason → step s = .next s) ∧
    (∀ record, s.status = .faulted record → step s = .fault (.raised record s))

/-- 40_sequencer R132: the end address is checked first, then the step budget, and only then is an instruction fetched. -/
def Obligations.RunControlChecksInOrder : Prop :=
  ∀ s : State, s.cfg.wellFormed = true → s.resetDone = true → s.status = .running →
    (s.cfg.endAddr = some s.pc → step s = .next { s with status := .stopped .endAddress }) ∧
    (s.cfg.endAddr ≠ some s.pc → ∀ b, s.cfg.stepBudget = some b → b ≤ s.steps →
      step s = .next { s with status := .stopped .stepBudget }) ∧
    (s.cfg.endAddr ≠ some s.pc → (∀ b, s.cfg.stepBudget = some b → s.steps < b) →
      step s = match fetchInstr s with
        | .done i t => exec i t
        | .failed f => .fault f)

/-- 70_reset R342, 20_memory R56: the only refusals are an ill-formed configuration and a machine never reset; no
instruction is refused. -/
def Obligations.RefusalsAreConfigurationAndReset : Prop :=
  (∀ (s : State) (r : Refusal), step s = .refused r ↔
    (s.cfg.wellFormed = false ∧ r = .illFormedConfiguration) ∨
    (s.cfg.wellFormed = true ∧ s.resetDone = false ∧ r = .notReset)) ∧
  ∀ (i : Instr) (s : State) (r : Refusal), exec i s ≠ .refused r

/-- 20_memory R56: a configuration is well-formed iff every range is ordered and no address lies in two ranges. -/
def Obligations.WellFormedMeansDisjointRanges : Prop :=
  ∀ c : Config, c.wellFormed = true ↔
    (∀ p ∈ c.peripherals, p.first ≤ p.last) ∧
    c.peripherals.Pairwise fun p q => ∀ a : Addr, ¬ ((p.first ≤ a ∧ a ≤ p.last) ∧ (q.first ≤ a ∧ a ≤ q.last))

/-- 70_reset R340, 10_state R38: reset sets every register, flag, counter and the status, from any state; RAM and the
configuration are as before; S is the low byte of its argument. That the peripherals' access history is as before too is
the model's choice: log entry 5. -/
def Obligations.ResetSetsAllCoreState : Prop :=
  ∀ (loadArg stackArg : Addr) (s : State), s.resetWith loadArg stackArg =
    { a := 0, x := 0, y := 0, sp := BitVec.ofNat 8 (stackArg.toNat % 256), pc := loadArg,
      p := { n := false, v := false, d := false, i := false, z := false, c := false },
      ram := s.ram, cycles := 0, steps := 0, status := .running, resetDone := true, periphLog := s.periphLog,
      cfg := s.cfg }

/-- 10_state R38: the values of the reset state, Pbyte being 0x20. The values of PC (0x0600), S (0xFF), the empty RAM list
and the empty access history are the model's choice: log entries 1, 2 and 5; the default configuration is log entry 4. -/
def Obligations.ResetStateValues : Prop :=
  State.reset.a = 0 ∧ State.reset.x = 0 ∧ State.reset.y = 0 ∧ State.reset.p.toByte = 0x20 ∧
  State.reset.cycles = 0 ∧ State.reset.steps = 0 ∧ State.reset.status = .running ∧
  State.reset.pc = State.reset.cfg.loadAddr ∧ State.reset.sp = State.reset.cfg.stackInit ∧
  State.reset = (State.powerOn Config.default []).resetCore

/-- 20_memory R53: byte `k` of the data goes to `(a + k) mod 65536` of RAM, every other byte keeps its value, and nothing
but RAM changes. Two things are the model's: that this holds in every state, after the run's first instruction too (log
entry 12), and that of data longer than 65536 bytes the later byte on an address stands (log entry 13). -/
def Obligations.LoaderWritesTheBytes : Prop :=
  ∀ (s : State) (a : Addr) (data : List Byte), s.ram.wf = true →
    (∀ (k : Nat) (hk : k < data.length), data.length - k ≤ 65536 →
      (s.loadBytes a data).peek (a + BitVec.ofNat 16 k) = data[k]) ∧
    (∀ b : Addr, (∀ k < data.length, b ≠ a + BitVec.ofNat 16 k) → (s.loadBytes a data).peek b = s.peek b) ∧
    s.loadBytes a data = { s with ram := (s.loadBytes a data).ram }

/-! ## The bus -/

/-- 20_memory R54, R57: a bus read: the reserved limit first, then the peripheral that claims the address, then RAM. -/
def Obligations.BusReadDispatch : Prop :=
  ∀ (s : State) (a : Addr),
    (a.toNat < s.cfg.reservedLimit.toNat → memRead a s =
      .failed (.raised (.invalidAddress a .read) { s with status := .faulted (.invalidAddress a .read) })) ∧
    (¬ a.toNat < s.cfg.reservedLimit.toNat → s.cfg.wellFormed = true →
      ∀ p ∈ s.cfg.peripherals, p.first ≤ a → a ≤ p.last →
        ∃ log, log = { device := p.device, addr := a, kind := .read } :: s.periphLog ∧
        match Config.readAnswer p.device (s.deviceHistory p.device) a with
        | some b => memRead a s = .done b { s with periphLog := log }
        | none => memRead a s = .failed (.raised (.peripheralReadError a)
            { s with periphLog := log, status := .faulted (.peripheralReadError a) })) ∧
    (¬ a.toNat < s.cfg.reservedLimit.toNat → (∀ p ∈ s.cfg.peripherals, ¬ (p.first ≤ a ∧ a ≤ p.last)) →
      memRead a s = .done (s.peek a) s)

/-- 20_memory R54, R57: a bus write: the same order; a write a peripheral claims does not reach RAM, and a RAM write
changes that byte only. -/
def Obligations.BusWriteDispatch : Prop :=
  ∀ (s : State) (a : Addr) (v : Byte), s.ram.wf = true →
    (a.toNat < s.cfg.reservedLimit.toNat → memWrite a v s =
      .failed (.raised (.invalidAddress a .write) { s with status := .faulted (.invalidAddress a .write) })) ∧
    (¬ a.toNat < s.cfg.reservedLimit.toNat → s.cfg.wellFormed = true →
      ∀ p ∈ s.cfg.peripherals, p.first ≤ a → a ≤ p.last →
        ∃ log, log = { device := p.device, addr := a, kind := .write v } :: s.periphLog ∧
        if Config.writeAnswer p.device (s.deviceHistory p.device) a v = true
        then memWrite a v s = .done () { s with periphLog := log }
        else memWrite a v s = .failed (.raised (.peripheralWriteError a v)
            { s with periphLog := log, status := .faulted (.peripheralWriteError a v) })) ∧
    (¬ a.toNat < s.cfg.reservedLimit.toNat → (∀ p ∈ s.cfg.peripherals, ¬ (p.first ≤ a ∧ a ≤ p.last)) →
      ∃ ram, memWrite a v s = .done () { s with ram := ram } ∧ ram.wf = true ∧ ram.read a.toNat = v ∧
        ∀ b : Addr, b ≠ a → ram.read b.toNat = s.ram.read b.toNat)

/-- 40_sequencer R111 to R118, R121, R122: on any bus a mode without pointer bytes, and on plain RAM every mode, resolves to
the address and crossing its rule gives, and changes nothing; on any bus the pointer modes read their two bytes, low byte
first, and take the address from them. -/
def Obligations.ResolverAddresses : Prop :=
  (∀ (mode : Mode) (arg : Addr) (s : State), pointerAt mode arg.toNat s = [] ∨ s.ramOnly →
    resolve mode arg s =
      .done ⟨(eaNumber mode arg.toNat s).map (BitVec.ofNat 16), crossNumber mode arg.toNat s⟩ s) ∧
  ∀ (mode : Mode) (arg lo hi : Addr) (s t u : State) (l h : Byte), pointerAt mode arg.toNat s = [lo, hi] →
    memRead lo s = .done l t → memRead hi t = .done h u →
    resolve mode arg s = .done (if mode = .indirectY
      then ⟨some (BitVec.ofNat 16 (256 * h.toNat + l.toNat + s.y.toNat)), decide (256 ≤ l.toNat + s.y.toNat)⟩
      else ⟨some (BitVec.ofNat 16 (256 * h.toNat + l.toNat)), false⟩) u

/-- 40_sequencer R119: on any bus the operand of an immediate form is its own byte, read by no access, and that of a memory
form what one bus read at its effective address answers; on plain RAM that is the byte of RAM there, and nothing changes. -/
def Obligations.OperandOfEachForm : Prop :=
  ∀ (i : Instr) (s : State),
    (∀ b : Byte, i.mode = .immediate → i.operand = .byte b → OperandIs i s b false s.periphLog) ∧
    (∀ (a : Addr) (cross : Bool) (t u : State) (m : Byte), AddressIs i s a cross t → memRead a t = .done m u →
      OperandIs i s m cross u.periphLog) ∧
    (∀ (m : Byte) (n : Nat), s.ramOnly → eaNumber i.mode i.arg.toNat s = some n → m.toNat = ramAt s n →
      OperandIs i s m (crossNumber i.mode i.arg.toNat s) s.periphLog)

/-- 60_exceptions R300, R302 to R304, R309: a bus access that fails ends the step with that fault, and the accesses before
it are done: the fetches, the pointer reads, every read and write at an effective address, every stack access, and BRK's
vector reads. -/
def Obligations.FailedAccessEndsTheInstruction : Prop := MemoryAccessFaults ∧ StackAccessFaults ∧ FetchFaults

/-! ## ALU primitives and P -/

/-- 10_state R27: SetNZ sets Z iff the value is 0 and N iff bit 7 is set, writes nothing else, and never leaves both 1. -/
def Obligations.SetNZRule : Prop :=
  ∀ (v : Byte) (p : Flags),
    Flags.setNZ v p =
      { n := decide (128 ≤ v.toNat), v := p.v, d := p.d, i := p.i, z := decide (v.toNat = 0), c := p.c } ∧
    ¬ ((Flags.setNZ v p).n = true ∧ (Flags.setNZ v p).z = true)

/-- 40_sequencer R123: AddCore's result is the sum mod 256, C is set iff the unsigned sum is above 255, and V is set iff
both operands have the same sign and the result's sign differs; equally, iff the exact signed sum does not fit. -/
def Obligations.AddCoreRule : Prop :=
  ∀ (a m : Byte) (cin : Bool),
    (addCore a m cin).r.toNat = (a.toNat + m.toNat + cin.toNat) % 256 ∧
    ((addCore a m cin).c = true ↔ 255 < a.toNat + m.toNat + cin.toNat) ∧
    ((addCore a m cin).v = true ↔ a.msb = m.msb ∧ (addCore a m cin).r.msb ≠ a.msb) ∧
    ((addCore a m cin).v = true ↔
      ¬ (-128 ≤ a.toInt + m.toInt + (cin.toNat : Int) ∧ a.toInt + m.toInt + (cin.toNat : Int) ≤ 127))

/-- 40_sequencer R126: the four shift primitives as arithmetic on the byte. -/
def Obligations.ShiftPrimitiveRule : Prop :=
  ∀ (v : Byte) (cin : Bool),
    ((aslOp v cin).r.toNat = 2 * v.toNat % 256 ∧ (aslOp v cin).c = v.getLsbD 7) ∧
    ((lsrOp v cin).r.toNat = v.toNat / 2 ∧ (lsrOp v cin).c = v.getLsbD 0) ∧
    ((rolOp v cin).r.toNat = 2 * v.toNat % 256 + cin.toNat ∧ (rolOp v cin).c = v.getLsbD 7) ∧
    ((rorOp v cin).r.toNat = v.toNat / 2 + 128 * cin.toNat ∧ (rorOp v cin).c = v.getLsbD 0)

/-- 10_state R26 (bits 5 and 4 and the pushed copy are the spec's decision D8): the image of P, the flags of a byte, and
that each undoes the other but for bits 5 and 4. -/
def Obligations.StatusByteImage : Prop :=
  (∀ p : Flags, p.toByte.toNat = 128 * p.n.toNat + 64 * p.v.toNat + 32 + 8 * p.d.toNat + 4 * p.i.toNat + 2 * p.z.toNat +
    p.c.toNat ∧ p.pushed.toNat = p.toByte.toNat + 16 ∧ Flags.ofByte p.toByte = p ∧ Flags.ofByte p.pushed = p) ∧
  ∀ b : Byte, (Flags.ofByte b).toByte = (b &&& 0xCF) ||| 0x20

/-! ## Loads, stores, transfers -/

/-- 41_load_store R140 to R142: LDA, LDX and LDY load the operand and set N and Z from it, in every form. -/
def Obligations.LoadsLoadTheOperand : Prop :=
  ∀ (i : Instr) (s : State) (m : Byte) (cross : Bool) (log : List PeripheralAccess), OperandIs i s m cross log →
    (i.mnemonic = .lda → exec i s = .next (finish (cost i s cross) { s with a := m, p := nz m s.p, periphLog := log })) ∧
    (i.mnemonic = .ldx → exec i s = .next (finish (cost i s cross) { s with x := m, p := nz m s.p, periphLog := log })) ∧
    (i.mnemonic = .ldy → exec i s = .next (finish (cost i s cross) { s with y := m, p := nz m s.p, periphLog := log }))

/-- 41_load_store R143 to R145: STA, STX and STY write their register at the effective address, by one bus write, and
change no flag, in every form. -/
def Obligations.StoresWriteTheRegister : Prop :=
  ∀ (i : Instr) (s t u : State) (a : Addr) (cross : Bool) (v : Byte), AddressIs i s a cross t →
    (i.mnemonic = .sta ∧ v = s.a) ∨ (i.mnemonic = .stx ∧ v = s.x) ∨ (i.mnemonic = .sty ∧ v = s.y) →
    memWrite a v t = .done () u →
    exec i s = .next (finish (cost i s cross) { s with ram := u.ram, periphLog := u.periphLog })

/-- 41_load_store R146 to R151: the register transfers, each from its own byte; TXS alone sets no flag. -/
def Obligations.TransfersCopyARegister : Prop :=
  (encode .tax = [0xAA] ∧ encode .tay = [0xA8] ∧ encode .txa = [0x8A] ∧ encode .tya = [0x98] ∧ encode .tsx = [0xBA] ∧
    encode .txs = [0x9A]) ∧
  ∀ s : State,
    exec .tax s = .next (finish 2 { s with x := s.a, p := nz s.a s.p }) ∧
    exec .tay s = .next (finish 2 { s with y := s.a, p := nz s.a s.p }) ∧
    exec .txa s = .next (finish 2 { s with a := s.x, p := nz s.x s.p }) ∧
    exec .tya s = .next (finish 2 { s with a := s.y, p := nz s.y s.p }) ∧
    exec .tsx s = .next (finish 2 { s with x := s.sp, p := nz s.sp s.p }) ∧
    exec .txs s = .next (finish 2 { s with sp := s.x })

/-! ## Arithmetic -/

/-- 42_arithmetic R170, R181: ADC in every form: the sum with carry, C from the unsigned and V from the signed sum. -/
def Obligations.AdcAddsWithCarry : Prop :=
  ∀ (i : Instr) (s : State) (m : Byte) (cross : Bool) (log : List PeripheralAccess), i.mnemonic = .adc →
    OperandIs i s m cross log → addsInBinary s →
    ∀ r : Byte, r.toNat = (s.a.toNat + m.toNat + s.p.c.toNat) % 256 →
    exec i s = .next (finish (cost i s cross) { s with
      a := r, periphLog := log,
      p := nz r { s.p with
        c := decide (255 < s.a.toNat + m.toNat + s.p.c.toNat),
        v := decide (¬ (-128 ≤ s.a.toInt + m.toInt + (s.p.c.toNat : Int) ∧
          s.a.toInt + m.toInt + (s.p.c.toNat : Int) ≤ 127)) } })

/-- 42_arithmetic R171: SBC in every form: `A - m - (1 - C)`, C set iff no borrow, V from the signed difference. -/
def Obligations.SbcSubtractsWithBorrow : Prop :=
  ∀ (i : Instr) (s : State) (m : Byte) (cross : Bool) (log : List PeripheralAccess), i.mnemonic = .sbc →
    OperandIs i s m cross log → addsInBinary s →
    ∀ r : Byte, (r.toNat : Int) = ((s.a.toNat : Int) - m.toNat - (1 - s.p.c.toNat)) % 256 →
    exec i s = .next (finish (cost i s cross) { s with
      a := r, periphLog := log,
      p := nz r { s.p with
        c := decide (m.toNat + (1 - s.p.c.toNat) ≤ s.a.toNat),
        v := decide (¬ (-128 ≤ s.a.toInt - m.toInt - (1 - (s.p.c.toNat : Int)) ∧
          s.a.toInt - m.toInt - (1 - (s.p.c.toNat : Int)) ≤ 127)) } })

/-- 40_sequencer R124, 60_exceptions R305 (the spec's decision D9): with D = 1 under the `fault` policy ADC and SBC fault
after the operand read, with their opcode and address, no register or flag written. -/
def Obligations.DecimalModeFaults : Prop :=
  ∀ (i : Instr) (s : State) (m : Byte) (cross : Bool) (log : List PeripheralAccess),
    i.mnemonic = .adc ∨ i.mnemonic = .sbc → OperandIs i s m cross log →
    s.p.d = true → s.cfg.decimalPolicy = .fault →
    ∀ record, record = .decimalModeUnsupported i.variant.opcode (s.pc - BitVec.ofNat 16 i.length) →
    exec i s = .fault (.raised record { s with periphLog := log, status := .faulted record })

/-- 42_arithmetic R181: ADC with carry-in `c`, then SBC of the same operand with carry-in `1 - c`, restores A, for any
two forms whose operands are equal. -/
def Obligations.SbcUndoesAdc : Prop :=
  ∀ (i j : Instr) (s t : State) (m : Byte) (cross cross' : Bool) (log log' : List PeripheralAccess),
    i.mnemonic = .adc → j.mnemonic = .sbc → OperandIs i s m cross log → addsInBinary s → exec i s = .next t →
    OperandIs j { t with p := { t.p with c := !s.p.c } } m cross' log' →
    ∃ u, exec j { t with p := { t.p with c := !s.p.c } } = .next u ∧ u.a = s.a

/-- 42_arithmetic R172 to R174, 40_sequencer R125 (the fixed carry-in is the spec's decision D21): the compares in every
form set C, Z and N from register and operand, whatever the old carry and D, and nothing else. -/
def Obligations.ComparesSetCarryZeroNegative : Prop :=
  ∀ (i : Instr) (s : State) (m r : Byte) (cross : Bool) (log : List PeripheralAccess), OperandIs i s m cross log →
    (i.mnemonic = .cmp ∧ r = s.a) ∨ (i.mnemonic = .cpx ∧ r = s.x) ∨ (i.mnemonic = .cpy ∧ r = s.y) →
    exec i s = .next (finish (cost i s cross) { s with
      periphLog := log,
      p := { s.p with
        c := decide (m.toNat ≤ r.toNat), z := decide (r = m),
        n := decide (128 ≤ ((r.toNat : Int) - m.toNat) % 256) } })

/-- 42_arithmetic R175, R176: INC and DEC in every form: one read and one write at the effective address; N and Z from
the byte written; C and V unchanged. -/
def Obligations.IncDecMemory : Prop :=
  ∀ (i : Instr) (s t u w : State) (a : Addr) (cross : Bool) (v r : Byte), AddressIs i s a cross t →
    memRead a t = .done v u →
    (i.mnemonic = .inc ∧ r.toNat = (v.toNat + 1) % 256) ∨ (i.mnemonic = .dec ∧ r.toNat = (v.toNat + 255) % 256) →
    memWrite a r u = .done () w →
    exec i s = .next (finish (cost i s cross) { s with p := nz r s.p, ram := w.ram, periphLog := w.periphLog })

/-- 42_arithmetic R177 to R180: INX, INY, DEX and DEY, each from its own byte, modulo 256, with N and Z; C and V
unchanged. -/
def Obligations.IncDecRegisters : Prop :=
  (encode .inx = [0xE8] ∧ encode .iny = [0xC8] ∧ encode .dex = [0xCA] ∧ encode .dey = [0x88]) ∧
  ∀ (s : State) (r : Byte),
    (r.toNat = (s.x.toNat + 1) % 256 → exec .inx s = .next (finish 2 { s with x := r, p := nz r s.p })) ∧
    (r.toNat = (s.y.toNat + 1) % 256 → exec .iny s = .next (finish 2 { s with y := r, p := nz r s.p })) ∧
    (r.toNat = (s.x.toNat + 255) % 256 → exec .dex s = .next (finish 2 { s with x := r, p := nz r s.p })) ∧
    (r.toNat = (s.y.toNat + 255) % 256 → exec .dey s = .next (finish 2 { s with y := r, p := nz r s.p }))

/-! ## Logic and shifts -/

/-- 43_logic_shift R200 to R202: AND, ORA and EOR in every form: the bit operation on A, then N and Z. -/
def Obligations.BitwiseOperations : Prop :=
  ∀ (i : Instr) (s : State) (m r : Byte) (cross : Bool) (log : List PeripheralAccess), OperandIs i s m cross log →
    (i.mnemonic = .and ∧ ∀ k < 8, r.getLsbD k = (s.a.getLsbD k && m.getLsbD k)) ∨
    (i.mnemonic = .ora ∧ ∀ k < 8, r.getLsbD k = (s.a.getLsbD k || m.getLsbD k)) ∨
    (i.mnemonic = .eor ∧ ∀ k < 8, r.getLsbD k = (s.a.getLsbD k ^^ m.getLsbD k)) →
    exec i s = .next (finish (cost i s cross) { s with a := r, p := nz r s.p, periphLog := log })

/-- 43_logic_shift R203: BIT in both forms: Z from `A & m`, N and V from bits 7 and 6 of the operand; A and C unchanged. -/
def Obligations.BitTestsTheOperand : Prop :=
  ∀ (i : Instr) (s : State) (m : Byte) (cross : Bool) (log : List PeripheralAccess), i.mnemonic = .bit →
    OperandIs i s m cross log →
    exec i s = .next (finish (cost i s cross) { s with
      periphLog := log,
      p := { s.p with
        z := decide (s.a.toNat &&& m.toNat = 0),
        n := decide (128 ≤ m.toNat), v := decide (64 ≤ m.toNat % 128) } })

/-- 43_logic_shift R204 to R207: the accumulator forms: A and C from the shift, then N and Z; no bus access. -/
def Obligations.AccumulatorShifts : Prop :=
  ∀ (i : Instr) (s : State) (n : Nat) (c : Bool) (r : Byte), i.mode = .accumulator →
    shiftNumber i.mnemonic s.a s.p.c = some (n, c) → r.toNat = n →
    exec i s = .next (finish 2 { s with a := r, p := nz r { s.p with c := c } })

/-- 43_logic_shift R204 to R207: the memory forms: one read and one write at the effective address, C from the shift,
then N and Z; A unchanged. -/
def Obligations.MemoryShifts : Prop :=
  ∀ (i : Instr) (s t u w : State) (a : Addr) (cross : Bool) (v r : Byte) (n : Nat) (c : Bool), AddressIs i s a cross t →
    memRead a t = .done v u → shiftNumber i.mnemonic v s.p.c = some (n, c) → r.toNat = n →
    memWrite a r u = .done () w →
    exec i s = .next (finish (cost i s cross)
      { s with p := nz r { s.p with c := c }, ram := w.ram, periphLog := w.periphLog })

/-! ## Control transfer -/

/-- 44_control R230: JMP loads PC with the effective address, in both forms. -/
def Obligations.JmpLoadsPc : Prop :=
  ∀ (i : Instr) (s t : State) (a : Addr) (cross : Bool), i.mnemonic = .jmp → AddressIs i s a cross t →
    exec i s = .next (finish i.variant.base { s with pc := a, periphLog := t.periphLog })

/-- 44_control R231: JSR pushes the address of its own last byte, high byte first, and jumps to its operand. -/
def Obligations.JsrPushesAndJumps : Prop :=
  ∀ (s t u : State) (target : Addr) (hi lo : Byte), (s.pc.toNat + 65535) % 65536 = 256 * hi.toNat + lo.toNat →
    memWrite (slot s 0) hi s = .done () t → memWrite (slot s 1) lo { t with sp := s.sp - 1 } = .done () u →
    exec (.jsr target) s = .next (finish 6
      { s with pc := target, sp := s.sp - 2, ram := u.ram, periphLog := u.periphLog })

/-- 44_control R232: RTS pulls PC low byte first and adds 1. -/
def Obligations.RtsPullsPc : Prop :=
  ∀ (s t u : State) (lo hi : Byte), memRead (stackAddr (s.sp + 1)) { s with sp := s.sp + 1 } = .done lo t →
    memRead (stackAddr (s.sp + 2)) { t with sp := s.sp + 2 } = .done hi u →
    exec .rts s = .next (finish 6
      { s with pc := BitVec.ofNat 16 (256 * hi.toNat + lo.toNat + 1), sp := s.sp + 2, periphLog := u.periphLog })

/-- 44_control R233: RTI pulls the six flags, then PC low byte first, with no addition. -/
def Obligations.RtiPullsFlagsAndPc : Prop :=
  ∀ (s t u w : State) (p lo hi : Byte), memRead (stackAddr (s.sp + 1)) { s with sp := s.sp + 1 } = .done p t →
    ∀ flags : Flags, flags.n = p.getLsbD 7 → flags.v = p.getLsbD 6 → flags.d = p.getLsbD 3 → flags.i = p.getLsbD 2 →
      flags.z = p.getLsbD 1 → flags.c = p.getLsbD 0 →
    memRead (stackAddr (s.sp + 2)) { t with sp := s.sp + 2, p := flags } = .done lo u →
    memRead (stackAddr (s.sp + 3)) { u with sp := s.sp + 3 } = .done hi w →
    exec .rti s = .next (finish 6
      { s with pc := BitVec.ofNat 16 (256 * hi.toNat + lo.toNat), sp := s.sp + 3, p := flags, periphLog := w.periphLog })

/-- 44_control R231, R232: on plain stack slots, RTS right after JSR returns to the byte after the JSR, S as before. -/
def Obligations.RtsReturnsFromJsr : Prop :=
  ∀ (s : State) (target : Addr), s.ram.wf = true → s.plainAt (slot s 0) → s.plainAt (slot s 1) →
    ∃ t u, exec (.jsr target) s = .next t ∧ t.pc = target ∧ exec .rts t = .next u ∧ u.pc = s.pc ∧ u.sp = s.sp

/-- 44_control R234 to R242, 40_sequencer R128: each branch: if its flag condition holds, PC moves by the signed offset
at 3 cycles, or 4 to another page; else PC stays at 2 cycles; nothing else changes. -/
def Obligations.BranchesOnAFlag : Prop :=
  ∀ (i : Instr) (s : State) (rel : Byte) (taken : Bool) (target : Addr), branchOn i s.p = some (rel, taken) →
    (target.toNat : Int) = ((s.pc.toNat : Int) + rel.toInt) % 65536 →
    exec i s = .next (if taken = true
      then finish (if target.toNat / 256 = s.pc.toNat / 256 then 3 else 4) { s with pc := target }
      else finish 2 s)

/-- 44_control R243, 60_exceptions R311 (the spec's decision D10): BRK in `signal_stop` mode completes with PC past the
padding byte and stops the run; nothing else changes. -/
def Obligations.BrkSignalStops : Prop :=
  ∀ s : State, s.cfg.brkMode = .signalStop →
    exec .brk s = .next (finish 7 { s with pc := s.pc + 1, status := .stopped .brk })

/-- 44_control R243, 60_exceptions R312: BRK in `vector` mode on any readable and writable bus: three pushes (PC past the
padding byte, high byte first, then P with bits 5 and 4 set), I set, PC from the vector. -/
def Obligations.BrkVectorEntry : Prop :=
  ∀ (s s1 s2 s3 s4 s5 : State) (hi lo tlo thi : Byte), s.cfg.brkMode = .vector →
    (s.pc.toNat + 1) % 65536 = 256 * hi.toNat + lo.toNat →
    memWrite (slot s 0) hi { s with pc := s.pc + 1 } = .done () s1 →
    memWrite (slot s 1) lo { s1 with sp := s.sp - 1 } = .done () s2 →
    memWrite (slot s 2) (s.p.toByte ||| 0x30) { s2 with sp := s.sp - 2 } = .done () s3 →
    memRead s.cfg.brkVector { s3 with sp := s.sp - 3, p := { s.p with i := true } } = .done tlo s4 →
    memRead (s.cfg.brkVector + 1) s4 = .done thi s5 →
    exec .brk s = .next (finish 7 { s with
      pc := BitVec.ofNat 16 (256 * thi.toNat + tlo.toNat), sp := s.sp - 3, p := { s.p with i := true },
      ram := s5.ram, periphLog := s5.periphLog })

/-- 60_exceptions R313: on plain RAM, RTI right after BRK in `vector` mode resumes past the padding byte with S and all of
P restored. -/
def Obligations.RtiResumesAfterBrk : Prop :=
  ∀ s : State, s.ram.wf = true → s.ramOnly → s.cfg.brkMode = .vector →
    ∃ t u, exec .brk s = .next t ∧ t.p.i = true ∧ exec .rti t = .next u ∧ u.pc = s.pc + 1 ∧ u.sp = s.sp ∧ u.p = s.p

/-! ## Stack and flags -/

/-- 45_stack_status R260, R261, 10_state R30: PHA and PHP write one byte (A; Pbyte with bit 4 set) to the slot at S, which
is byte S of page 0x01, and decrement S. -/
def Obligations.PushesWriteTheStack : Prop :=
  (∀ b : Byte, (stackAddr b).toNat = 256 + b.toNat) ∧
  ∀ (i : Instr) (s t : State) (v : Byte), (i = .pha ∧ v = s.a) ∨ (i = .php ∧ v.toNat = s.p.toByte.toNat + 16) →
    memWrite (slot s 0) v s = .done () t →
    exec i s = .next (finish 3 { s with sp := s.sp - 1, ram := t.ram, periphLog := t.periphLog })

/-- 45_stack_status R262, R263, 10_state R30: PLA and PLP increment S and read its slot, byte S of page 0x01: A with N and
Z, or all six flags. -/
def Obligations.PullsReadTheStack : Prop :=
  (∀ b : Byte, (stackAddr b).toNat = 256 + b.toNat) ∧
  ∀ (s t : State) (v : Byte), memRead (stackAddr (s.sp + 1)) { s with sp := s.sp + 1 } = .done v t →
    exec .pla s = .next (finish 4 { s with sp := s.sp + 1, a := v, p := nz v s.p, periphLog := t.periphLog }) ∧
    exec .plp s = .next (finish 4 { s with
      sp := s.sp + 1, periphLog := t.periphLog,
      p := ⟨v.getLsbD 7, v.getLsbD 6, v.getLsbD 3, v.getLsbD 2, v.getLsbD 1, v.getLsbD 0⟩ })

/-- 45_stack_status R264 to R270, 44_control R244: each flag instruction, from its own byte, writes its one flag, NOP
nothing. -/
def Obligations.FlagInstructionsAndNop : Prop :=
  (encode .clc = [0x18] ∧ encode .sec = [0x38] ∧ encode .cli = [0x58] ∧ encode .sei = [0x78] ∧ encode .cld = [0xD8] ∧
    encode .sed = [0xF8] ∧ encode .clv = [0xB8] ∧ encode .nop = [0xEA]) ∧
  ∀ s : State,
    exec .clc s = .next (finish 2 { s with p := { s.p with c := false } }) ∧
    exec .sec s = .next (finish 2 { s with p := { s.p with c := true } }) ∧
    exec .cli s = .next (finish 2 { s with p := { s.p with i := false } }) ∧
    exec .sei s = .next (finish 2 { s with p := { s.p with i := true } }) ∧
    exec .cld s = .next (finish 2 { s with p := { s.p with d := false } }) ∧
    exec .sed s = .next (finish 2 { s with p := { s.p with d := true } }) ∧
    exec .clv s = .next (finish 2 { s with p := { s.p with v := false } }) ∧
    exec .nop s = .next (finish 2 s)

/-! ## What no instruction does: frames and whole-machine rules -/

/-- 10_state R28: each flag changes only under the instructions of its row. -/
def Obligations.FlagWriters : Prop :=
  ∀ (i : Instr) (s t : State), exec i s = .next t →
    (t.p.c ≠ s.p.c → i.mnemonic ∈ [Mnemonic.adc, .sbc, .cmp, .cpx, .cpy, .asl, .lsr, .rol, .ror, .sec, .clc, .plp, .rti]) ∧
    (t.p.v ≠ s.p.v → i.mnemonic ∈ [Mnemonic.adc, .sbc, .bit, .clv, .plp, .rti]) ∧
    (t.p.i ≠ s.p.i → i.mnemonic ∈ [Mnemonic.sei, .cli, .plp, .rti] ∨ i.mnemonic = .brk ∧ s.cfg.brkMode = .vector) ∧
    (t.p.d ≠ s.p.d → i.mnemonic ∈ [Mnemonic.sed, .cld, .plp, .rti]) ∧
    (t.p.n ≠ s.p.n ∨ t.p.z ≠ s.p.z → i.mnemonic ∈
      [Mnemonic.lda, .ldx, .ldy, .tax, .tay, .txa, .tya, .tsx, .pla, .adc, .sbc, .cmp, .cpx, .cpy, .inc, .dec, .inx, .iny,
       .dex, .dey, .and, .ora, .eor, .asl, .lsr, .rol, .ror, .bit, .plp, .rti])

/-- 10_state R21 to R24: A, X, Y, S and PC change only under the instructions that name them as writers; PC of `s` is
already past the instruction's bytes. -/
def Obligations.RegisterWriters : Prop :=
  ∀ (i : Instr) (s t : State), exec i s = .next t →
    (t.a ≠ s.a → i.mnemonic ∈ [Mnemonic.lda, .pla, .txa, .tya, .adc, .sbc, .and, .ora, .eor] ∨ i.mode = .accumulator) ∧
    (t.x ≠ s.x → i.mnemonic ∈ [Mnemonic.ldx, .tax, .tsx, .inx, .dex]) ∧
    (t.y ≠ s.y → i.mnemonic ∈ [Mnemonic.ldy, .tay, .iny, .dey]) ∧
    (t.sp ≠ s.sp → i.mnemonic ∈ [Mnemonic.txs, .pha, .php, .pla, .plp, .jsr, .rts, .rti] ∨
      i.mnemonic = .brk ∧ s.cfg.brkMode = .vector) ∧
    (t.pc ≠ s.pc → i.mnemonic ∈ [Mnemonic.jmp, .jsr, .rts, .rti, .brk] ∨ i.mode = .relative)

/-- 40_sequencer R104: a byte of RAM that the instruction does not store to reads as before: the stores, the memory
shifts, INC and DEC store at their effective address, the pushes at their stack slots, and no other form stores. -/
def Obligations.MemoryFrame : Prop :=
  ∀ (i : Instr) (s t : State), s.ram.wf = true → exec i s = .next t →
    ∀ b : Addr, ¬ storesAt i s b → t.peek b = s.peek b

/-- 40_sequencer R104, 20_memory R63 (no dummy accesses: the spec's decision D16): with one device on the whole address
space, an instruction's accesses after its own bytes are those R104 lists, in that order: the pointer bytes low byte first,
then those of its behaviour. -/
def Obligations.AccessesAreThoseListed : Prop :=
  ∀ (i : Instr) (s t : State) (device : Nat), s.cfg.peripherals = [{ first := 0, last := 0xFFFF, device := device }] →
    exec i s = .next t →
    ∃ r u new, resolve i.mode i.arg s = .done r u ∧ t.periphLog = new ++ s.periphLog ∧
      new.reverse.map accessOf =
        (pointerAt i.mode i.arg.toNat s).map (fun a => (a, false)) ++ ownAccesses i s r.ea ∧
      (∀ e ∈ new, e.device = device) ∧ t.ram = s.ram

/-- 70_reset R343, 40_sequencer R107, R131: a step keeps the configuration and the access history's past, and a step
that completes an instruction counts one; a run stops only at the end address, at the budget, both with nothing else
changed, or by a BRK opcode in `signal_stop` mode. -/
def Obligations.StepKeepsConfigurationAndCounts : Prop :=
  ∀ s t : State, step s = .next t →
    t.cfg = s.cfg ∧ t.resetDone = s.resetDone ∧ (∃ new, t.periphLog = new ++ s.periphLog) ∧
    (s.status = .running → t.status = .running → t.steps = s.steps + 1) ∧
    (s.status = .running → t.status = .stopped .endAddress → s.cfg.endAddr = some s.pc ∧ t = { s with status := t.status }) ∧
    (s.status = .running → t.status = .stopped .stepBudget →
      (∃ b, s.cfg.stepBudget = some b ∧ b ≤ s.steps) ∧ t = { s with status := t.status }) ∧
    (s.status = .running → t.status = .stopped .brk →
      (∃ u, memRead s.pc s = .done 0x00 u) ∧ s.cfg.brkMode = .signalStop ∧ t.steps = s.steps + 1) ∧
    (∀ record, t.status ≠ .faulted record)

/-- 70_reset R363, 40_sequencer R129: a completed instruction costs between 2 and 8 cycles and counts as one step. -/
def Obligations.CostBetweenTwoAndEight : Prop :=
  ∀ (i : Instr) (s t : State), exec i s = .next t →
    s.cycles + 2 ≤ t.cycles ∧ t.cycles ≤ s.cycles + 8 ∧ t.steps = s.steps + 1

/-- 60_exceptions R300: a fault of a running machine leaves the status `Faulted` with its record, and neither `cycles`
nor `steps` advanced. -/
def Obligations.FaultEndsTheRun : Prop :=
  ∀ (s : State) (record : FaultRecord) (left : State), s.status = .running → step s = .fault (.raised record left) →
    left.status = .faulted record ∧ left.cycles = s.cycles ∧ left.steps = s.steps ∧ left.cfg = s.cfg

/-- 60_exceptions R308 (the numbers are the spec's decision D18), R306, 30_encoding R90: the six fault codes, whatever the
info; a step raises no InvalidAddressingMode, so no code 5. -/
def Obligations.FaultCodesAndReach : Prop :=
  (∀ (b v : Byte) (a : Addr) (d : Direction) (mode : Mode),
    (FaultRecord.unknownOpcode b a).code = 1 ∧ (FaultRecord.peripheralReadError a).code = 2 ∧
    (FaultRecord.peripheralWriteError a v).code = 3 ∧ (FaultRecord.invalidAddress a d).code = 4 ∧
    (FaultRecord.invalidAddressingMode mode).code = 5 ∧ (FaultRecord.decimalModeUnsupported b a).code = 6) ∧
  ∀ (s : State) (record : FaultRecord) (left : State), s.status = .running → step s = .fault (.raised record left) →
    (∀ mode, record ≠ .invalidAddressingMode mode) ∧ record.code ∈ [1, 2, 3, 4, 6]

/-- 40_sequencer R132: under a step budget the number of completed instructions never passes it. -/
def Obligations.BudgetBoundsTheRun : Prop :=
  ∀ (n budget : Nat) (s t : State), s.cfg.stepBudget = some budget → s.steps ≤ budget → run n s = .next t →
    t.steps ≤ budget ∧ t.cfg.stepBudget = some budget

/-- 20_memory R50, R55, 70_reset R363: every step keeps the invariant: RAM in canonical form, between 2 and 8 cycles per
completed instruction, every logged access in a range of its device. -/
def Obligations.StepKeepsInvariant : Prop :=
  ∀ s t : State, s.Inv → step s = .next t → t.Inv

/-- The invariant holds at reset, and after any boot with RAM in canonical form. The reset values it reads are the model's
choice where log entries 1, 2 and 5 say so. -/
def Obligations.InvariantHoldsAtReset : Prop :=
  State.reset.Inv ∧ ∀ (cfg : Config) (mem : Memory) (program : List Byte), mem.wf = true → (State.boot cfg mem program).Inv
end

