-- ==== Sys2Proof/Laws/State.lean ====
section
/-! SUPPORT. One lemma per field per update of State, each true by rfl. -/

namespace Sys2Proof.Machine

variable (s : State)

@[simp] theorem State.setA_a (v : Byte) : (s.setA v).a = v := rfl
@[simp] theorem State.setA_x (v : Byte) : (s.setA v).x = s.x := rfl
@[simp] theorem State.setA_y (v : Byte) : (s.setA v).y = s.y := rfl
@[simp] theorem State.setA_sp (v : Byte) : (s.setA v).sp = s.sp := rfl
@[simp] theorem State.setA_pc (v : Byte) : (s.setA v).pc = s.pc := rfl
@[simp] theorem State.setA_p (v : Byte) : (s.setA v).p = s.p := rfl
@[simp] theorem State.setA_ram (v : Byte) : (s.setA v).ram = s.ram := rfl
@[simp] theorem State.setA_cycles (v : Byte) : (s.setA v).cycles = s.cycles := rfl
@[simp] theorem State.setA_steps (v : Byte) : (s.setA v).steps = s.steps := rfl
@[simp] theorem State.setA_status (v : Byte) : (s.setA v).status = s.status := rfl
@[simp] theorem State.setA_resetDone (v : Byte) : (s.setA v).resetDone = s.resetDone := rfl
@[simp] theorem State.setA_periphLog (v : Byte) : (s.setA v).periphLog = s.periphLog := rfl
@[simp] theorem State.setA_cfg (v : Byte) : (s.setA v).cfg = s.cfg := rfl

@[simp] theorem State.setX_a (v : Byte) : (s.setX v).a = s.a := rfl
@[simp] theorem State.setX_x (v : Byte) : (s.setX v).x = v := rfl
@[simp] theorem State.setX_y (v : Byte) : (s.setX v).y = s.y := rfl
@[simp] theorem State.setX_sp (v : Byte) : (s.setX v).sp = s.sp := rfl
@[simp] theorem State.setX_pc (v : Byte) : (s.setX v).pc = s.pc := rfl
@[simp] theorem State.setX_p (v : Byte) : (s.setX v).p = s.p := rfl
@[simp] theorem State.setX_ram (v : Byte) : (s.setX v).ram = s.ram := rfl
@[simp] theorem State.setX_cycles (v : Byte) : (s.setX v).cycles = s.cycles := rfl
@[simp] theorem State.setX_steps (v : Byte) : (s.setX v).steps = s.steps := rfl
@[simp] theorem State.setX_status (v : Byte) : (s.setX v).status = s.status := rfl
@[simp] theorem State.setX_resetDone (v : Byte) : (s.setX v).resetDone = s.resetDone := rfl
@[simp] theorem State.setX_periphLog (v : Byte) : (s.setX v).periphLog = s.periphLog := rfl
@[simp] theorem State.setX_cfg (v : Byte) : (s.setX v).cfg = s.cfg := rfl

@[simp] theorem State.setY_a (v : Byte) : (s.setY v).a = s.a := rfl
@[simp] theorem State.setY_x (v : Byte) : (s.setY v).x = s.x := rfl
@[simp] theorem State.setY_y (v : Byte) : (s.setY v).y = v := rfl
@[simp] theorem State.setY_sp (v : Byte) : (s.setY v).sp = s.sp := rfl
@[simp] theorem State.setY_pc (v : Byte) : (s.setY v).pc = s.pc := rfl
@[simp] theorem State.setY_p (v : Byte) : (s.setY v).p = s.p := rfl
@[simp] theorem State.setY_ram (v : Byte) : (s.setY v).ram = s.ram := rfl
@[simp] theorem State.setY_cycles (v : Byte) : (s.setY v).cycles = s.cycles := rfl
@[simp] theorem State.setY_steps (v : Byte) : (s.setY v).steps = s.steps := rfl
@[simp] theorem State.setY_status (v : Byte) : (s.setY v).status = s.status := rfl
@[simp] theorem State.setY_resetDone (v : Byte) : (s.setY v).resetDone = s.resetDone := rfl
@[simp] theorem State.setY_periphLog (v : Byte) : (s.setY v).periphLog = s.periphLog := rfl
@[simp] theorem State.setY_cfg (v : Byte) : (s.setY v).cfg = s.cfg := rfl

@[simp] theorem State.setSp_a (v : Byte) : (s.setSp v).a = s.a := rfl
@[simp] theorem State.setSp_x (v : Byte) : (s.setSp v).x = s.x := rfl
@[simp] theorem State.setSp_y (v : Byte) : (s.setSp v).y = s.y := rfl
@[simp] theorem State.setSp_sp (v : Byte) : (s.setSp v).sp = v := rfl
@[simp] theorem State.setSp_pc (v : Byte) : (s.setSp v).pc = s.pc := rfl
@[simp] theorem State.setSp_p (v : Byte) : (s.setSp v).p = s.p := rfl
@[simp] theorem State.setSp_ram (v : Byte) : (s.setSp v).ram = s.ram := rfl
@[simp] theorem State.setSp_cycles (v : Byte) : (s.setSp v).cycles = s.cycles := rfl
@[simp] theorem State.setSp_steps (v : Byte) : (s.setSp v).steps = s.steps := rfl
@[simp] theorem State.setSp_status (v : Byte) : (s.setSp v).status = s.status := rfl
@[simp] theorem State.setSp_resetDone (v : Byte) : (s.setSp v).resetDone = s.resetDone := rfl
@[simp] theorem State.setSp_periphLog (v : Byte) : (s.setSp v).periphLog = s.periphLog := rfl
@[simp] theorem State.setSp_cfg (v : Byte) : (s.setSp v).cfg = s.cfg := rfl

@[simp] theorem State.setPc_a (v : Addr) : (s.setPc v).a = s.a := rfl
@[simp] theorem State.setPc_x (v : Addr) : (s.setPc v).x = s.x := rfl
@[simp] theorem State.setPc_y (v : Addr) : (s.setPc v).y = s.y := rfl
@[simp] theorem State.setPc_sp (v : Addr) : (s.setPc v).sp = s.sp := rfl
@[simp] theorem State.setPc_pc (v : Addr) : (s.setPc v).pc = v := rfl
@[simp] theorem State.setPc_p (v : Addr) : (s.setPc v).p = s.p := rfl
@[simp] theorem State.setPc_ram (v : Addr) : (s.setPc v).ram = s.ram := rfl
@[simp] theorem State.setPc_cycles (v : Addr) : (s.setPc v).cycles = s.cycles := rfl
@[simp] theorem State.setPc_steps (v : Addr) : (s.setPc v).steps = s.steps := rfl
@[simp] theorem State.setPc_status (v : Addr) : (s.setPc v).status = s.status := rfl
@[simp] theorem State.setPc_resetDone (v : Addr) : (s.setPc v).resetDone = s.resetDone := rfl
@[simp] theorem State.setPc_periphLog (v : Addr) : (s.setPc v).periphLog = s.periphLog := rfl
@[simp] theorem State.setPc_cfg (v : Addr) : (s.setPc v).cfg = s.cfg := rfl

@[simp] theorem State.setP_a (q : Flags) : (s.setP q).a = s.a := rfl
@[simp] theorem State.setP_x (q : Flags) : (s.setP q).x = s.x := rfl
@[simp] theorem State.setP_y (q : Flags) : (s.setP q).y = s.y := rfl
@[simp] theorem State.setP_sp (q : Flags) : (s.setP q).sp = s.sp := rfl
@[simp] theorem State.setP_pc (q : Flags) : (s.setP q).pc = s.pc := rfl
@[simp] theorem State.setP_p (q : Flags) : (s.setP q).p = q := rfl
@[simp] theorem State.setP_ram (q : Flags) : (s.setP q).ram = s.ram := rfl
@[simp] theorem State.setP_cycles (q : Flags) : (s.setP q).cycles = s.cycles := rfl
@[simp] theorem State.setP_steps (q : Flags) : (s.setP q).steps = s.steps := rfl
@[simp] theorem State.setP_status (q : Flags) : (s.setP q).status = s.status := rfl
@[simp] theorem State.setP_resetDone (q : Flags) : (s.setP q).resetDone = s.resetDone := rfl
@[simp] theorem State.setP_periphLog (q : Flags) : (s.setP q).periphLog = s.periphLog := rfl
@[simp] theorem State.setP_cfg (q : Flags) : (s.setP q).cfg = s.cfg := rfl

@[simp] theorem State.setNZ_a (v : Byte) : (s.setNZ v).a = s.a := rfl
@[simp] theorem State.setNZ_x (v : Byte) : (s.setNZ v).x = s.x := rfl
@[simp] theorem State.setNZ_y (v : Byte) : (s.setNZ v).y = s.y := rfl
@[simp] theorem State.setNZ_sp (v : Byte) : (s.setNZ v).sp = s.sp := rfl
@[simp] theorem State.setNZ_pc (v : Byte) : (s.setNZ v).pc = s.pc := rfl
@[simp] theorem State.setNZ_p (v : Byte) : (s.setNZ v).p = Flags.setNZ v s.p := rfl
@[simp] theorem State.setNZ_ram (v : Byte) : (s.setNZ v).ram = s.ram := rfl
@[simp] theorem State.setNZ_cycles (v : Byte) : (s.setNZ v).cycles = s.cycles := rfl
@[simp] theorem State.setNZ_steps (v : Byte) : (s.setNZ v).steps = s.steps := rfl
@[simp] theorem State.setNZ_status (v : Byte) : (s.setNZ v).status = s.status := rfl
@[simp] theorem State.setNZ_resetDone (v : Byte) : (s.setNZ v).resetDone = s.resetDone := rfl
@[simp] theorem State.setNZ_periphLog (v : Byte) : (s.setNZ v).periphLog = s.periphLog := rfl
@[simp] theorem State.setNZ_cfg (v : Byte) : (s.setNZ v).cfg = s.cfg := rfl

@[simp] theorem State.setRam_a (m : Memory) : (s.setRam m).a = s.a := rfl
@[simp] theorem State.setRam_x (m : Memory) : (s.setRam m).x = s.x := rfl
@[simp] theorem State.setRam_y (m : Memory) : (s.setRam m).y = s.y := rfl
@[simp] theorem State.setRam_sp (m : Memory) : (s.setRam m).sp = s.sp := rfl
@[simp] theorem State.setRam_pc (m : Memory) : (s.setRam m).pc = s.pc := rfl
@[simp] theorem State.setRam_p (m : Memory) : (s.setRam m).p = s.p := rfl
@[simp] theorem State.setRam_ram (m : Memory) : (s.setRam m).ram = m := rfl
@[simp] theorem State.setRam_cycles (m : Memory) : (s.setRam m).cycles = s.cycles := rfl
@[simp] theorem State.setRam_steps (m : Memory) : (s.setRam m).steps = s.steps := rfl
@[simp] theorem State.setRam_status (m : Memory) : (s.setRam m).status = s.status := rfl
@[simp] theorem State.setRam_resetDone (m : Memory) : (s.setRam m).resetDone = s.resetDone := rfl
@[simp] theorem State.setRam_periphLog (m : Memory) : (s.setRam m).periphLog = s.periphLog := rfl
@[simp] theorem State.setRam_cfg (m : Memory) : (s.setRam m).cfg = s.cfg := rfl

@[simp] theorem State.poke_a (k : Addr) (v : Byte) : (s.poke k v).a = s.a := rfl
@[simp] theorem State.poke_x (k : Addr) (v : Byte) : (s.poke k v).x = s.x := rfl
@[simp] theorem State.poke_y (k : Addr) (v : Byte) : (s.poke k v).y = s.y := rfl
@[simp] theorem State.poke_sp (k : Addr) (v : Byte) : (s.poke k v).sp = s.sp := rfl
@[simp] theorem State.poke_pc (k : Addr) (v : Byte) : (s.poke k v).pc = s.pc := rfl
@[simp] theorem State.poke_p (k : Addr) (v : Byte) : (s.poke k v).p = s.p := rfl
@[simp] theorem State.poke_ram (k : Addr) (v : Byte) : (s.poke k v).ram = s.ram.write k.toNat v := rfl
@[simp] theorem State.poke_cycles (k : Addr) (v : Byte) : (s.poke k v).cycles = s.cycles := rfl
@[simp] theorem State.poke_steps (k : Addr) (v : Byte) : (s.poke k v).steps = s.steps := rfl
@[simp] theorem State.poke_status (k : Addr) (v : Byte) : (s.poke k v).status = s.status := rfl
@[simp] theorem State.poke_resetDone (k : Addr) (v : Byte) : (s.poke k v).resetDone = s.resetDone := rfl
@[simp] theorem State.poke_periphLog (k : Addr) (v : Byte) : (s.poke k v).periphLog = s.periphLog := rfl
@[simp] theorem State.poke_cfg (k : Addr) (v : Byte) : (s.poke k v).cfg = s.cfg := rfl

@[simp] theorem State.setStatus_a (r : RunStatus) : (s.setStatus r).a = s.a := rfl
@[simp] theorem State.setStatus_x (r : RunStatus) : (s.setStatus r).x = s.x := rfl
@[simp] theorem State.setStatus_y (r : RunStatus) : (s.setStatus r).y = s.y := rfl
@[simp] theorem State.setStatus_sp (r : RunStatus) : (s.setStatus r).sp = s.sp := rfl
@[simp] theorem State.setStatus_pc (r : RunStatus) : (s.setStatus r).pc = s.pc := rfl
@[simp] theorem State.setStatus_p (r : RunStatus) : (s.setStatus r).p = s.p := rfl
@[simp] theorem State.setStatus_ram (r : RunStatus) : (s.setStatus r).ram = s.ram := rfl
@[simp] theorem State.setStatus_cycles (r : RunStatus) : (s.setStatus r).cycles = s.cycles := rfl
@[simp] theorem State.setStatus_steps (r : RunStatus) : (s.setStatus r).steps = s.steps := rfl
@[simp] theorem State.setStatus_status (r : RunStatus) : (s.setStatus r).status = r := rfl
@[simp] theorem State.setStatus_resetDone (r : RunStatus) : (s.setStatus r).resetDone = s.resetDone := rfl
@[simp] theorem State.setStatus_periphLog (r : RunStatus) : (s.setStatus r).periphLog = s.periphLog := rfl
@[simp] theorem State.setStatus_cfg (r : RunStatus) : (s.setStatus r).cfg = s.cfg := rfl

@[simp] theorem State.logAccess_a (e : PeripheralAccess) : (s.logAccess e).a = s.a := rfl
@[simp] theorem State.logAccess_x (e : PeripheralAccess) : (s.logAccess e).x = s.x := rfl
@[simp] theorem State.logAccess_y (e : PeripheralAccess) : (s.logAccess e).y = s.y := rfl
@[simp] theorem State.logAccess_sp (e : PeripheralAccess) : (s.logAccess e).sp = s.sp := rfl
@[simp] theorem State.logAccess_pc (e : PeripheralAccess) : (s.logAccess e).pc = s.pc := rfl
@[simp] theorem State.logAccess_p (e : PeripheralAccess) : (s.logAccess e).p = s.p := rfl
@[simp] theorem State.logAccess_ram (e : PeripheralAccess) : (s.logAccess e).ram = s.ram := rfl
@[simp] theorem State.logAccess_cycles (e : PeripheralAccess) : (s.logAccess e).cycles = s.cycles := rfl
@[simp] theorem State.logAccess_steps (e : PeripheralAccess) : (s.logAccess e).steps = s.steps := rfl
@[simp] theorem State.logAccess_status (e : PeripheralAccess) : (s.logAccess e).status = s.status := rfl
@[simp] theorem State.logAccess_resetDone (e : PeripheralAccess) : (s.logAccess e).resetDone = s.resetDone := rfl
@[simp] theorem State.logAccess_periphLog (e : PeripheralAccess) : (s.logAccess e).periphLog = e :: s.periphLog := rfl
@[simp] theorem State.logAccess_cfg (e : PeripheralAccess) : (s.logAccess e).cfg = s.cfg := rfl

@[simp] theorem State.finalize_a (n : Nat) : (s.finalize n).a = s.a := rfl
@[simp] theorem State.finalize_x (n : Nat) : (s.finalize n).x = s.x := rfl
@[simp] theorem State.finalize_y (n : Nat) : (s.finalize n).y = s.y := rfl
@[simp] theorem State.finalize_sp (n : Nat) : (s.finalize n).sp = s.sp := rfl
@[simp] theorem State.finalize_pc (n : Nat) : (s.finalize n).pc = s.pc := rfl
@[simp] theorem State.finalize_p (n : Nat) : (s.finalize n).p = s.p := rfl
@[simp] theorem State.finalize_ram (n : Nat) : (s.finalize n).ram = s.ram := rfl
@[simp] theorem State.finalize_cycles (n : Nat) : (s.finalize n).cycles = s.cycles + n := rfl
@[simp] theorem State.finalize_steps (n : Nat) : (s.finalize n).steps = s.steps + 1 := rfl
@[simp] theorem State.finalize_status (n : Nat) : (s.finalize n).status = s.status := rfl
@[simp] theorem State.finalize_resetDone (n : Nat) : (s.finalize n).resetDone = s.resetDone := rfl
@[simp] theorem State.finalize_periphLog (n : Nat) : (s.finalize n).periphLog = s.periphLog := rfl
@[simp] theorem State.finalize_cfg (n : Nat) : (s.finalize n).cfg = s.cfg := rfl

end Sys2Proof.Machine
end

