-- ==== Sys2Proof/Laws/Memory.lean ====
section
/-! SUPPORT. RAM as a sorted list: reads after writes, and that a write keeps the canonical form. -/

namespace Sys2Proof.Machine

theorem Memory.wfFrom_cons (lo k : Nat) (v : Byte) (m : Memory) :
    Memory.wfFrom lo ((k, v) :: m) = true ↔
      lo ≤ k ∧ k < 65536 ∧ v ≠ Memory.blank ∧ Memory.wfFrom (k + 1) m = true := by
  simp [Memory.wfFrom, and_assoc]

theorem Memory.wfFrom_mono {lo lo' : Nat} {m : Memory} (h : Memory.wfFrom lo m = true) (hle : lo' ≤ lo) :
    Memory.wfFrom lo' m = true := by
  cases m with
  | nil => rfl
  | cons c rest =>
    obtain ⟨h1, h2⟩ := (Memory.wfFrom_cons lo c.1 c.2 rest).mp h
    exact (Memory.wfFrom_cons lo' c.1 c.2 rest).mpr ⟨by omega, h2⟩

/-- Below the least listed address every byte is blank. -/
theorem Memory.read_below {lo a : Nat} {m : Memory} (h : Memory.wfFrom lo m = true) (ha : a < lo) :
    m.read a = Memory.blank := by
  induction m generalizing lo with
  | nil => rfl
  | cons c rest ih =>
    obtain ⟨h1, -, -, h4⟩ := (Memory.wfFrom_cons lo c.1 c.2 rest).mp h
    have hne : c.1 ≠ a := by omega
    simp only [Memory.read, if_neg hne]
    exact ih h4 (by omega)

/-- A read after a write to the same address gives the value written. -/
theorem Memory.read_write_same {lo : Nat} {m : Memory} (h : Memory.wfFrom lo m = true) (a : Nat) (v : Byte) :
    (m.write a v).read a = v := by
  induction m generalizing lo with
  | nil => by_cases hv : v = Memory.blank <;> simp [Memory.write, Memory.read, hv]
  | cons c rest ih =>
    obtain ⟨k, w⟩ := c
    obtain ⟨-, -, -, h4⟩ := (Memory.wfFrom_cons lo k w rest).mp h
    simp only [Memory.write]
    split_ifs with h1 hv h2 hv
    · have hne : k ≠ a := by omega
      simp only [Memory.read, if_neg hne]
      rw [hv]
      exact Memory.read_below h4 (by omega)
    · simp [Memory.read]
    · rw [hv]
      exact Memory.read_below h4 (by omega)
    · simp [Memory.read, h2]
    · have hne : k ≠ a := fun e => h2 e.symm
      simp only [Memory.read, if_neg hne]
      exact ih h4

/-- A write leaves every other address alone. -/
theorem Memory.read_write_other {lo : Nat} {m : Memory} (h : Memory.wfFrom lo m = true) {a b : Nat} (v : Byte)
    (hab : b ≠ a) : (m.write a v).read b = m.read b := by
  induction m generalizing lo with
  | nil => by_cases hv : v = Memory.blank <;> simp [Memory.write, Memory.read, hv, Ne.symm hab]
  | cons c rest ih =>
    obtain ⟨k, w⟩ := c
    obtain ⟨-, -, -, h4⟩ := (Memory.wfFrom_cons lo k w rest).mp h
    simp only [Memory.write]
    split_ifs with h1 hv h2 hv
    · rfl
    · simp [Memory.read, Ne.symm hab]
    · have hne : k ≠ b := by omega
      simp [Memory.read, hne]
    · simp [Memory.read, ← h2, Ne.symm hab]
    · simp only [Memory.read]
      rw [ih h4]

theorem Memory.wfFrom_write {lo : Nat} {m : Memory} (h : Memory.wfFrom lo m = true) {a : Nat} (v : Byte)
    (hlo : lo ≤ a) (ha : a < 65536) : Memory.wfFrom lo (m.write a v) = true := by
  induction m generalizing lo with
  | nil =>
    by_cases hv : v = Memory.blank
    · simp [Memory.write, hv, Memory.wfFrom]
    · simp [Memory.write, hv, Memory.wfFrom, hlo, ha]
  | cons c rest ih =>
    obtain ⟨k, w⟩ := c
    obtain ⟨h1, h2, h3, h4⟩ := (Memory.wfFrom_cons lo k w rest).mp h
    simp only [Memory.write]
    split_ifs with hak hv hk hv
    · exact h
    · exact (Memory.wfFrom_cons ..).mpr ⟨hlo, ha, hv, (Memory.wfFrom_cons ..).mpr ⟨by omega, h2, h3, h4⟩⟩
    · exact Memory.wfFrom_mono h4 (by omega)
    · exact (Memory.wfFrom_cons ..).mpr ⟨h1, h2, hv, h4⟩
    · exact (Memory.wfFrom_cons ..).mpr ⟨h1, h2, h3, ih h4 (by omega)⟩

/-- A write keeps the canonical form. -/
theorem Memory.wf_write {m : Memory} (h : m.wf = true) (a : Addr) (v : Byte) : (m.write a.toNat v).wf = true :=
  Memory.wfFrom_write h v (Nat.zero_le _) a.isLt

/-- Equal contents are equal lists. -/
theorem Memory.wfFrom_ext {lo : Nat} {m n : Memory} (hm : Memory.wfFrom lo m = true) (hn : Memory.wfFrom lo n = true)
    (h : ∀ a, m.read a = n.read a) : m = n := by
  induction m generalizing lo n with
  | nil =>
    cases n with
    | nil => rfl
    | cons c rest =>
      obtain ⟨-, -, h3, -⟩ := (Memory.wfFrom_cons lo c.1 c.2 rest).mp hn
      exact absurd (by simpa [Memory.read] using (h c.1).symm) h3
  | cons c rest ih =>
    obtain ⟨k, w⟩ := c
    obtain ⟨h1, h2, h3, h4⟩ := (Memory.wfFrom_cons lo k w rest).mp hm
    cases n with
    | nil => exact absurd (by simpa [Memory.read] using h k) h3
    | cons d rest' =>
      obtain ⟨k', w'⟩ := d
      obtain ⟨g1, g2, g3, g4⟩ := (Memory.wfFrom_cons lo k' w' rest').mp hn
      have hkk : k = k' := by
        rcases Nat.lt_trichotomy k k' with hlt | heq | hgt
        · have := h k
          have hb : Memory.read ((k', w') :: rest') k = Memory.blank :=
            Memory.read_below ((Memory.wfFrom_cons k' k' w' rest').mpr ⟨Nat.le_refl _, g2, g3, g4⟩) hlt
          rw [hb] at this
          exact absurd (by simpa [Memory.read] using this) h3
        · exact heq
        · have := h k'
          have hb : Memory.read ((k, w) :: rest) k' = Memory.blank :=
            Memory.read_below ((Memory.wfFrom_cons k k w rest).mpr ⟨Nat.le_refl _, h2, h3, h4⟩) hgt
          rw [hb] at this
          exact absurd (by simpa [Memory.read] using this.symm) g3
      subst hkk
      have hww : w = w' := by simpa [Memory.read] using h k
      subst hww
      have : rest = rest' := by
        apply ih h4 g4
        intro a
        by_cases ha : k = a
        · subst ha
          rw [Memory.read_below h4 (by omega), Memory.read_below g4 (by omega)]
        · have := h a
          simpa [Memory.read, ha] using this
      rw [this]

/-- Two memories in canonical form with equal contents are equal. -/
theorem Memory.wf_ext {m n : Memory} (hm : m.wf = true) (hn : n.wf = true) (h : ∀ a, m.read a = n.read a) : m = n :=
  Memory.wfFrom_ext hm hn h

/-! ### The same through the state -/

theorem State.peek_poke_same {s : State} (h : s.ram.wf = true) (a : Addr) (v : Byte) : (s.poke a v).peek a = v :=
  Memory.read_write_same h a.toNat v

theorem State.peek_poke_other {s : State} (h : s.ram.wf = true) {a b : Addr} (v : Byte) (hab : b ≠ a) :
    (s.poke a v).peek b = s.peek b :=
  Memory.read_write_other h v fun e => hab (BitVec.eq_of_toNat_eq e)

theorem State.wf_poke {s : State} (h : s.ram.wf = true) (a : Addr) (v : Byte) : (s.poke a v).ram.wf = true :=
  Memory.wf_write h a v

/-- The memory of the reset state has the canonical form. -/
theorem State.reset_ram_wf : State.reset.ram.wf = true := rfl

/-- The Loader keeps the canonical form. -/
theorem State.wf_loadBytes {s : State} (h : s.ram.wf = true) (a : Addr) (data : List Byte) :
    (s.loadBytes a data).ram.wf = true := by
  induction data generalizing a s with
  | nil => exact h
  | cons b rest ih => exact ih (State.wf_poke h a b) (a + 1)

end Sys2Proof.Machine
end

