-- ==== Sys2Proof/Laws/Bus.lean ====
section
/-! SUPPORT. What each shared operation can do, said once: partial instructions, the bus, the stack, the resolver, the
operand read. -/

namespace Sys2Proof.Machine

/-! ### Sequencing -/

@[simp] theorem Run.andThen_done {α β : Type} (v : α) (s : State) (k : α → State → Run β) :
    (Run.done v s).andThen k = k v s := rfl

@[simp] theorem Run.andThen_failed {α β : Type} (f : Fault) (k : α → State → Run β) :
    (Run.failed f : Run α).andThen k = .failed f := rfl

/-- A sequence is done iff both parts are. -/
theorem Run.andThen_eq_done {α β : Type} {r : Run α} {k : α → State → Run β} {w : β} {t : State} :
    r.andThen k = .done w t ↔ ∃ v u, r = .done v u ∧ k v u = .done w t := by
  cases r <;> simp

/-- A sequence fails iff its first part fails, or the first is done and the second fails. -/
theorem Run.andThen_eq_failed {α β : Type} {r : Run α} {k : α → State → Run β} {f : Fault} :
    r.andThen k = .failed f ↔ r = .failed f ∨ ∃ v u, r = .done v u ∧ k v u = .failed f := by
  cases r <;> simp

/-! ### States that differ in bounded ways -/

/-- `t` is `s` but for the peripherals' access history: what bus reads may change. -/
def SameButLog (s t : State) : Prop := t = { s with periphLog := t.periphLog }

/-- `t` is `s` but for RAM and the peripherals' access history: what bus writes may change. -/
def SameButBus (s t : State) : Prop := t = { s with ram := t.ram, periphLog := t.periphLog }

theorem SameButLog.refl (s : State) : SameButLog s s := rfl

theorem SameButLog.trans {s t u : State} (h : SameButLog s t) (g : SameButLog t u) : SameButLog s u := by
  unfold SameButLog at *
  rw [h] at g
  exact g

theorem SameButLog.toBus {s t : State} (h : SameButLog s t) : SameButBus s t := by
  unfold SameButLog SameButBus at *
  rw [h]

theorem SameButBus.refl (s : State) : SameButBus s s := rfl

theorem SameButBus.trans {s t u : State} (h : SameButBus s t) (g : SameButBus t u) : SameButBus s u := by
  unfold SameButBus at *
  rw [h] at g
  exact g

theorem sameButLog_logAccess (s : State) (e : PeripheralAccess) : SameButLog s (s.logAccess e) := rfl

theorem sameButBus_poke (s : State) (a : Addr) (v : Byte) : SameButBus s (s.poke a v) := rfl

/-! ### The bus -/

/-- A read of plain RAM (R54). -/
theorem memRead_plain {s : State} {a : Addr} (h : s.plainAt a) : memRead a s = .done (s.peek a) s := by
  simp [memRead, h.1, h.2]

/-- A write of plain RAM (R54). -/
theorem memWrite_plain {s : State} {a : Addr} (h : s.plainAt a) (v : Byte) :
    memWrite a v s = .done () (s.poke a v) := by
  simp [memWrite, h.1, h.2]

/-- What a read that is done can be: plain RAM, or a peripheral's answer (R54). -/
theorem memRead_done {s t : State} {a : Addr} {b : Byte} (h : memRead a s = .done b t) :
    ¬ a < s.cfg.reservedLimit ∧
      ((s.peripheralAt a = none ∧ b = s.peek a ∧ t = s) ∨
       ∃ p, s.peripheralAt a = some p ∧ Config.readAnswer p.device (s.deviceHistory p.device) a = some b ∧
         t = s.logAccess { device := p.device, addr := a, kind := .read }) := by
  unfold memRead at h
  split at h
  · cases h
  · rename_i hr
    refine ⟨hr, ?_⟩
    split at h
    · rename_i p hp
      split at h
      · rename_i b' hb
        cases h
        exact .inr ⟨p, hp, hb, rfl⟩
      · cases h
    · rename_i hp
      cases h
      exact .inl ⟨hp, rfl, rfl⟩

/-- What a write that is done can be: plain RAM, or a peripheral's acceptance (R54). -/
theorem memWrite_done {s t : State} {a : Addr} {v : Byte} {x : Unit} (h : memWrite a v s = .done x t) :
    ¬ a < s.cfg.reservedLimit ∧
      ((s.peripheralAt a = none ∧ t = s.poke a v) ∨
       ∃ p, s.peripheralAt a = some p ∧ Config.writeAnswer p.device (s.deviceHistory p.device) a v = true ∧
         t = s.logAccess { device := p.device, addr := a, kind := .write v }) := by
  unfold memWrite at h
  split at h
  · cases h
  · rename_i hr
    refine ⟨hr, ?_⟩
    split at h
    · rename_i p hp
      split at h
      · rename_i hb
        cases h
        exact .inr ⟨p, hp, hb, rfl⟩
      · cases h
    · rename_i hp
      cases h
      exact .inl ⟨hp, rfl⟩

/-- A read changes the access history only. -/
theorem memRead_sameButLog {s t : State} {a : Addr} {b : Byte} (h : memRead a s = .done b t) : SameButLog s t := by
  obtain ⟨-, ⟨-, -, rfl⟩ | ⟨p, -, -, rfl⟩⟩ := memRead_done h
  · exact .refl _
  · exact sameButLog_logAccess _ _

/-- A write changes RAM or the access history only. -/
theorem memWrite_sameButBus {s t : State} {a : Addr} {v : Byte} {x : Unit} (h : memWrite a v s = .done x t) :
    SameButBus s t := by
  obtain ⟨-, ⟨-, rfl⟩ | ⟨p, -, -, rfl⟩⟩ := memWrite_done h
  · exact sameButBus_poke _ _ _
  · exact (sameButLog_logAccess _ _).toBus

/-- A pointer read changes the access history only. -/
theorem readPair_sameButLog {s t : State} {lo hi p : Addr} (h : readPair lo hi s = .done p t) : SameButLog s t := by
  obtain ⟨l, u, h1, h⟩ := Run.andThen_eq_done.mp h
  obtain ⟨r, w, h2, h⟩ := Run.andThen_eq_done.mp h
  cases h
  exact (memRead_sameButLog h1).trans (memRead_sameButLog h2)

/-- A pointer read of two plain bytes, low byte first. -/
theorem readPair_plain {s : State} {lo hi : Addr} (hl : s.plainAt lo) (hh : s.plainAt hi) :
    readPair lo hi s = .done (hiLo (s.peek hi) (s.peek lo)) s := by
  simp [readPair, memRead_plain hl, memRead_plain hh]

/-- The resolver changes the access history only (R121). -/
theorem resolve_sameButLog {mode : Mode} {arg : Addr} {s t : State} {r : Resolved}
    (h : resolve mode arg s = .done r t) : SameButLog s t := by
  cases mode
  case indirect | indirectX | indirectY =>
    obtain ⟨p, u, h1, h⟩ := Run.andThen_eq_done.mp h
    cases h
    exact readPair_sameButLog h1
  all_goals (cases h; exact .refl _)

/-- The operand read changes the access history only. -/
theorem readOperand_sameButLog {mode : Mode} {fr : Fragment} {s t : State} {m : Byte}
    (h : readOperand mode fr s = .done m t) : SameButLog s t := by
  unfold readOperand withEa at h
  split at h
  · cases h
    exact .refl _
  · split at h
    · exact memRead_sameButLog h
    · cases h

/-! ### The stack -/

/-- What a push that is done is: a write that is done, then S - 1 (R31). -/
theorem push_done {s t : State} {v : Byte} {x : Unit} (h : push v s = .done x t) :
    ∃ u, memWrite (stackAddr s.sp) v s = .done () u ∧ t = u.setSp (u.sp - 1) := by
  obtain ⟨_, u, h1, h⟩ := Run.andThen_eq_done.mp h
  cases h
  exact ⟨u, h1, rfl⟩

/-- A push to a plain slot (R31). -/
theorem push_plain {s : State} (h : s.plainAt (stackAddr s.sp)) (v : Byte) :
    push v s = .done () ((s.poke (stackAddr s.sp) v).setSp (s.sp - 1)) := by
  simp [push, memWrite_plain h]

/-- A pull from a plain slot (R32). -/
theorem pull_plain {s : State} (h : s.plainAt (stackAddr (s.sp + 1))) :
    pull s = .done (s.peek (stackAddr (s.sp + 1))) (s.setSp (s.sp + 1)) :=
  memRead_plain (s := s.setSp (s.sp + 1)) h

/-! ### Whole instructions -/

/-- A completed instruction: its address resolved, its behaviour done, its cost added (R105 to R107). -/
theorem execute_eq_next {i : Instr} {b : Behaviour} {s t : State} :
    execute i b s = .next t ↔
      ∃ r s1 extra s2, resolve i.mode i.arg s = .done r s1 ∧ b i.mode (fragmentOf i s r) s1 = .done extra s2 ∧
        t = s2.finalize (i.variant.base + (fragmentOf i s r).extra + extra) := by
  unfold execute
  cases hr : resolve i.mode i.arg s with
  | failed f => simp
  | done r s1 =>
    cases hb : b i.mode (fragmentOf i s r) s1 with
    | failed f => simp [hb]
    | done extra s2 => simp [hb, eq_comm]

/-- A faulted instruction: the resolver failed, or it was done and the behaviour failed. -/
theorem execute_eq_fault {i : Instr} {b : Behaviour} {s : State} {f : Fault} :
    execute i b s = .fault f ↔
      resolve i.mode i.arg s = .failed f ∨
        ∃ r s1, resolve i.mode i.arg s = .done r s1 ∧ b i.mode (fragmentOf i s r) s1 = .failed f := by
  unfold execute
  cases hr : resolve i.mode i.arg s with
  | failed g => simp
  | done r s1 =>
    cases hb : b i.mode (fragmentOf i s r) s1 with
    | failed g => simp [hb]
    | done extra s2 => simp [hb]

end Sys2Proof.Machine
end

