-- ==== Sys2Proof/Laws/Exec.lean ====
section
/-! SUPPORT. One behaviour per mnemonic (40_sequencer R108): exec of every form runs the behaviour of its mnemonic, so a
proof about all 151 forms splits into 56 cases. -/

namespace Sys2Proof.Machine

/-- The behaviour of each mnemonic (R84's rule column). -/
def behaviourOf : Mnemonic → Behaviour
  | .lda => behaveLda
  | .ldx => behaveLdx
  | .ldy => behaveLdy
  | .sta => behaveSta
  | .stx => behaveStx
  | .sty => behaveSty
  | .tax => behaveTax
  | .tay => behaveTay
  | .txa => behaveTxa
  | .tya => behaveTya
  | .tsx => behaveTsx
  | .txs => behaveTxs
  | .adc => behaveAdc
  | .sbc => behaveSbc
  | .cmp => behaveCmp
  | .cpx => behaveCpx
  | .cpy => behaveCpy
  | .inc => behaveInc
  | .dec => behaveDec
  | .inx => behaveInx
  | .iny => behaveIny
  | .dex => behaveDex
  | .dey => behaveDey
  | .and => behaveAnd
  | .ora => behaveOra
  | .eor => behaveEor
  | .bit => behaveBit
  | .asl => behaveAsl
  | .lsr => behaveLsr
  | .rol => behaveRol
  | .ror => behaveRor
  | .jmp => behaveJmp
  | .jsr => behaveJsr
  | .rts => behaveRts
  | .rti => behaveRti
  | .bpl => behaveBpl
  | .bmi => behaveBmi
  | .bvc => behaveBvc
  | .bvs => behaveBvs
  | .bcc => behaveBcc
  | .bcs => behaveBcs
  | .bne => behaveBne
  | .beq => behaveBeq
  | .brk => behaveBrk
  | .nop => behaveNop
  | .pha => behavePha
  | .php => behavePhp
  | .pla => behavePla
  | .plp => behavePlp
  | .clc => behaveClc
  | .sec => behaveSec
  | .cli => behaveCli
  | .sei => behaveSei
  | .cld => behaveCld
  | .sed => behaveSed
  | .clv => behaveClv

/-- Every form runs the behaviour of its mnemonic. -/
theorem exec_eq_execute (i : Instr) (s : State) : exec i s = execute i (behaviourOf i.mnemonic) s := by
  cases i <;> rfl

end Sys2Proof.Machine
end

