-- ==== Sys2Proof/Laws/Behaviour.lean ====
section
/-! SUPPORT. What each shape of behaviour, each stack sequence and the fetch do when they are done: the accesses they made,
in order, and the state they leave. A proof about an instruction cites these and unfolds no shape. -/

namespace Sys2Proof.Machine

variable {s t : State} {mode : Mode} {fr : Fragment} {k : Nat}

/-! ### The operand -/

/-- An operation on the effective address is done iff there is one and the operation is done on it. -/
theorem withEa_done {α : Type} {f : Addr → Run α} {v : α} :
    withEa mode fr s f = .done v t ↔ ∃ a, fr.ea = some a ∧ f a = .done v t := by
  unfold withEa
  cases fr.ea <;> simp

/-- The operand is the immediate byte, or one read at the effective address (R119). -/
theorem readOperand_done {m : Byte} :
    readOperand mode fr s = .done m t ↔
      (mode = .immediate ∧ m = loByte fr.arg ∧ t = s) ∨
      (mode ≠ .immediate ∧ ∃ a, fr.ea = some a ∧ memRead a s = .done m t) := by
  unfold readOperand
  split
  · rename_i h
    simp [h, eq_comm]
  · rename_i h
    simp [h, withEa_done]

/-! ### The shapes of behaviours -/

/-- The read class: one operand read, then the change. -/
theorem readThen_done {f : Byte → State → State} :
    readThen f mode fr s = .done k t ↔ ∃ m u, readOperand mode fr s = .done m u ∧ k = 0 ∧ t = f m u := by
  simp only [readThen, Run.andThen_eq_done]
  constructor
  · rintro ⟨m, u, h, e⟩
    cases e
    exact ⟨m, u, h, rfl, rfl⟩
  · rintro ⟨m, u, h, rfl, rfl⟩
    exact ⟨m, u, h, rfl⟩

/-- The store class: one write. -/
theorem storeOf_done {value : State → Byte} :
    storeOf value mode fr s = .done k t ↔ ∃ a, fr.ea = some a ∧ memWrite a (value s) s = .done () t ∧ k = 0 := by
  simp only [storeOf, withEa_done, Run.andThen_eq_done]
  constructor
  · rintro ⟨a, ha, _, u, hw, h⟩
    cases h
    exact ⟨a, ha, hw, rfl⟩
  · rintro ⟨a, ha, hw, rfl⟩
    exact ⟨a, ha, (), t, hw, rfl⟩

/-- INC and DEC: one read, one write of the changed byte, then SetNZ of it. -/
theorem modifyBy_done {f : Byte → Byte} :
    modifyBy f mode fr s = .done k t ↔
      ∃ a v u w, fr.ea = some a ∧ memRead a s = .done v u ∧ memWrite a (f v) u = .done () w ∧ k = 0 ∧
        t = w.setNZ (f v) := by
  simp only [modifyBy, withEa_done, Run.andThen_eq_done]
  constructor
  · rintro ⟨a, ha, v, u, hr, _, w, hw, h⟩
    cases h
    exact ⟨a, v, u, w, ha, hr, hw, rfl, rfl⟩
  · rintro ⟨a, v, u, w, ha, hr, hw, rfl, rfl⟩
    exact ⟨a, ha, v, u, hr, (), w, hw, rfl⟩

/-- The shifts: on A with no access, or one read and one write; then C and SetNZ. -/
theorem shiftBy_done {op : Byte → Bool → ShiftResult} :
    shiftBy op mode fr s = .done k t ↔
      (mode = .accumulator ∧ k = 0 ∧ t = (s.setA (op s.a s.p.c).r).setP (Flags.setShift (op s.a s.p.c) s.p)) ∨
      (mode ≠ .accumulator ∧ ∃ a v u w, fr.ea = some a ∧ memRead a s = .done v u ∧
        memWrite a (op v u.p.c).r u = .done () w ∧ k = 0 ∧ t = w.setP (Flags.setShift (op v u.p.c) w.p)) := by
  unfold shiftBy
  split
  · rename_i h
    simp [h, eq_comm]
  · rename_i h
    simp only [h, withEa_done, Run.andThen_eq_done, false_and, false_or, not_false_eq_true, true_and, ne_eq]
    constructor
    · rintro ⟨a, ha, v, u, hr, _, w, hw, e⟩
      cases e
      exact ⟨a, v, u, w, ha, hr, hw, rfl, rfl⟩
    · rintro ⟨a, v, u, w, ha, hr, hw, rfl, rfl⟩
      exact ⟨a, ha, v, u, hr, (), w, hw, rfl⟩

/-- An instruction with no bus access of its own. -/
theorem registerOnly_done {f : State → State} : registerOnly f mode fr s = .done k t ↔ k = 0 ∧ t = f s := by
  simp [registerOnly, eq_comm]

/-- ADC and SBC: one operand read, the decimal check passed, then A and the flags. -/
theorem addWith_done {f : Byte → Byte} :
    addWith f mode fr s = .done k t ↔
      ∃ m u, readOperand mode fr s = .done m u ∧ ¬ (u.p.d = true ∧ u.cfg.decimalPolicy = .fault) ∧ k = 0 ∧
        t = (u.setA (addCore u.a (f m) u.p.c).r).setP (Flags.setSum (addCore u.a (f m) u.p.c) u.p) := by
  simp only [addWith, Run.andThen_eq_done]
  constructor
  · rintro ⟨m, u, hr, _, w, hd, h⟩
    unfold decimalCheck at hd
    split at hd
    · cases hd
    · rename_i hn
      cases hd
      cases h
      exact ⟨m, u, hr, hn, rfl, rfl⟩
  · rintro ⟨m, u, hr, hn, rfl, rfl⟩
    exact ⟨m, u, hr, (), u, by rw [decimalCheck, if_neg hn], rfl⟩

/-- A branch: PC moves iff the condition holds; nothing else changes. -/
theorem branchIf_done {cond : Flags → Bool} :
    branchIf cond mode fr s = .done k t ↔
      (cond s.p = true ∧ t = s.setPc (s.pc + sext16 (loByte fr.arg)) ∧
        k = if pageCrossed (s.pc + sext16 (loByte fr.arg)) s.pc then 2 else 1) ∨
      (cond s.p = false ∧ t = s ∧ k = 0) := by
  unfold branchIf
  cases h : cond s.p
  · simp only [Bool.false_eq_true, if_false, false_and, false_or, true_and, Run.done.injEq]
    exact ⟨fun ⟨hk, ht⟩ => ⟨ht.symm, hk.symm⟩, fun ⟨ht, hk⟩ => ⟨hk.symm, ht.symm⟩⟩
  · simp only [if_true, true_and, Bool.true_eq_false, false_and, or_false, Run.done.injEq]
    exact ⟨fun ⟨hk, ht⟩ => ⟨ht.symm, hk.symm⟩, fun ⟨ht, hk⟩ => ⟨hk.symm, ht.symm⟩⟩

/-! ### The stack, BRK and RTI -/

/-- A pull that is done is a read at S + 1 (R32). -/
theorem pull_eq_memRead (s : State) : pull s = memRead (stackAddr (s.sp + 1)) (s.setSp (s.sp + 1)) := rfl

/-- A pushed pair: high byte, then low byte. -/
theorem pushPair_done {v : Addr} {x : Unit} :
    pushPair v s = .done x t ↔ ∃ u, push (hiByte v) s = .done () u ∧ push (loByte v) u = .done () t := by
  cases x
  simp only [pushPair, Run.andThen_eq_done]
  exact ⟨fun ⟨_, u, h⟩ => ⟨u, h⟩, fun ⟨u, h⟩ => ⟨(), u, h⟩⟩

/-- A pulled pair: low byte, then high byte. -/
theorem pullPair_done {v : Addr} :
    pullPair s = .done v t ↔ ∃ l u h, pull s = .done l u ∧ pull u = .done h t ∧ v = hiLo h l := by
  simp only [pullPair, Run.andThen_eq_done]
  constructor
  · rintro ⟨l, u, hl, h, w, hh, e⟩
    cases e
    exact ⟨l, u, h, hl, hh, rfl⟩
  · rintro ⟨l, u, h, hl, hh, rfl⟩
    exact ⟨l, u, hl, h, t, hh, rfl⟩

/-- The BRK entry: two pushes of PC, one of P with bits 5 and 4 set, I set, PC from the vector (R243). -/
theorem brkEntry_done {x : Unit} :
    brkEntry s = .done x t ↔
      ∃ u w z target, pushPair s.pc s = .done () u ∧ push u.p.pushed u = .done () w ∧
        readPair w.cfg.brkVector (w.cfg.brkVector + 1) (w.setP { w.p with i := true }) = .done target z ∧
        t = z.setPc target := by
  simp only [brkEntry, Run.andThen_eq_done, State.setP_cfg]
  constructor
  · rintro ⟨_, u, h1, _, w, h2, target, z, h3, e⟩
    cases e
    exact ⟨u, w, z, target, h1, h2, h3, rfl⟩
  · rintro ⟨u, w, z, target, h1, h2, h3, rfl⟩
    exact ⟨(), u, h1, (), w, h2, target, z, h3, rfl⟩

/-- The return of RTI: all of P, then PC (R233). -/
theorem returnFromBreak_done {x : Unit} :
    returnFromBreak s = .done x t ↔
      ∃ b u target w, pull s = .done b u ∧ pullPair (u.setP (Flags.ofByte b)) = .done target w ∧
        t = w.setPc target := by
  simp only [returnFromBreak, Run.andThen_eq_done]
  constructor
  · rintro ⟨b, u, h1, target, w, h2, e⟩
    cases e
    exact ⟨b, u, target, w, h1, h2, rfl⟩
  · rintro ⟨b, u, target, w, h1, h2, rfl⟩
    exact ⟨b, u, h1, target, w, h2, rfl⟩

/-- A push changes S, RAM and the access history only (R31). -/
theorem push_frame {v : Byte} {x : Unit} (h : push v s = .done x t) :
    t = { s with sp := s.sp - 1, ram := t.ram, periphLog := t.periphLog } := by
  obtain ⟨u, hw, rfl⟩ := push_done h
  have hu := memWrite_sameButBus hw
  unfold SameButBus at hu
  rw [hu]
  rfl

/-- A pull changes S and the access history only (R32). -/
theorem pull_frame {v : Byte} (h : pull s = .done v t) : t = { s with sp := s.sp + 1, periphLog := t.periphLog } :=
  memRead_sameButLog (s := s.setSp (s.sp + 1)) h

/-- A pushed pair changes S, RAM and the access history only. -/
theorem pushPair_frame {v : Addr} {x : Unit} (h : pushPair v s = .done x t) :
    t = { s with sp := s.sp - 2, ram := t.ram, periphLog := t.periphLog } := by
  obtain ⟨u, h1, h2⟩ := pushPair_done.mp h
  rw [push_frame h2, push_frame h1]
  simp only [State.mk.injEq, and_true, true_and]
  rw [BitVec.sub_sub]
  rfl

/-- A pulled pair changes S and the access history only. -/
theorem pullPair_frame {v : Addr} (h : pullPair s = .done v t) :
    t = { s with sp := s.sp + 2, periphLog := t.periphLog } := by
  obtain ⟨l, u, r, h1, h2, -⟩ := pullPair_done.mp h
  rw [pull_frame h2, pull_frame h1]
  simp only [State.mk.injEq, and_true, true_and]
  rw [BitVec.add_assoc]
  rfl

/-- The BRK entry changes S, PC, I, RAM and the access history only (R243). -/
theorem brkEntry_frame {x : Unit} (h : brkEntry s = .done x t) :
    t = { s with
      sp := s.sp - 3, pc := t.pc, p := { s.p with i := true }, ram := t.ram, periphLog := t.periphLog } := by
  obtain ⟨u, w, z, target, h1, h2, h3, rfl⟩ := brkEntry_done.mp h
  have hz := readPair_sameButLog h3
  unfold SameButLog at hz
  rw [hz, push_frame h2, pushPair_frame h1]
  simp only [State.setPc, State.setP, State.mk.injEq, and_true, true_and]
  rw [BitVec.sub_sub]
  rfl

/-- The return of RTI changes S, PC, P and the access history only (R233). -/
theorem returnFromBreak_frame {x : Unit} (h : returnFromBreak s = .done x t) :
    t = { s with sp := s.sp + 3, pc := t.pc, p := t.p, periphLog := t.periphLog } := by
  obtain ⟨b, u, target, w, h1, h2, rfl⟩ := returnFromBreak_done.mp h
  rw [pullPair_frame h2, pull_frame h1]
  simp only [State.setPc, State.setP, State.mk.injEq, and_true, true_and]
  rw [BitVec.add_assoc]
  rfl

/-! ### The fetch -/

/-- A fetch that is done is a read at PC, then PC + 1 (R58). -/
theorem fetch_done {b : Byte} :
    fetch s = .done b t ↔ ∃ u, memRead s.pc s = .done b u ∧ t = u.setPc (u.pc + 1) := by
  simp only [fetch, Run.andThen_eq_done]
  constructor
  · rintro ⟨c, u, h, e⟩
    cases e
    exact ⟨u, h, rfl⟩
  · rintro ⟨u, h, rfl⟩
    exact ⟨b, u, h, rfl⟩

/-- A fetch changes PC and the access history only. -/
theorem fetch_sameButLog {b : Byte} (h : fetch s = .done b t) :
    ∃ u, SameButLog s u ∧ t = u.setPc (u.pc + 1) := by
  obtain ⟨u, hu, rfl⟩ := fetch_done.mp h
  exact ⟨u, memRead_sameButLog hu, rfl⟩

/-- A fetched instruction: only PC and the access history have changed (R101 to R103). -/
theorem fetchInstr_done {i : Instr} (h : fetchInstr s = .done i t) :
    t = { s with pc := t.pc, periphLog := t.periphLog } := by
  have key : ∀ {s t : State} {b : Byte}, fetch s = .done b t → t = { s with pc := t.pc, periphLog := t.periphLog } := by
    intro s t b hf
    obtain ⟨u, hu, rfl⟩ := fetch_sameButLog hf
    unfold SameButLog at hu
    rw [hu]
    rfl
  obtain ⟨b, u, h1, h⟩ := Run.andThen_eq_done.mp h
  cases hd : dispatchMap b <;> simp only [hd] at h
  · cases h
  · cases h
    exact key h1
  · obtain ⟨b', w, h2, h⟩ := Run.andThen_eq_done.mp h
    cases h
    rw [key h2, key h1]
  · obtain ⟨lo, w, h2, h⟩ := Run.andThen_eq_done.mp h
    obtain ⟨hi, z, h3, h⟩ := Run.andThen_eq_done.mp h
    cases h
    rw [key h3, key h2, key h1]

end Sys2Proof.Machine
end

