-- ==== Sys2Proof/Laws/PerInstr.lean ====
section
/-! SUPPORT. Statements about each instruction as syntax: its encoding is as long as its mode says and begins with
the catalog's opcode. -/

namespace Sys2Proof.Laws

/-- The encoding of `i` (R80 to R82): its length and its first byte. -/
def Encoding.Statement (i : Instr) : Prop :=
  (encode i).length = i.length ∧ (encode i).head? = some i.variant.opcode

end Sys2Proof.Laws

theorem Sys2Proof.Laws.Encoding.ldaIndX (zp : Sys2Proof.Byte) : Sys2Proof.Laws.Encoding.Statement (.ldaIndX zp) := ⟨rfl, rfl⟩
theorem Sys2Proof.Laws.Encoding.ldaZp (zp : Sys2Proof.Byte) : Sys2Proof.Laws.Encoding.Statement (.ldaZp zp) := ⟨rfl, rfl⟩
theorem Sys2Proof.Laws.Encoding.ldaImm (imm : Sys2Proof.Byte) : Sys2Proof.Laws.Encoding.Statement (.ldaImm imm) := ⟨rfl, rfl⟩
theorem Sys2Proof.Laws.Encoding.ldaAbs (addr : Sys2Proof.Addr) : Sys2Proof.Laws.Encoding.Statement (.ldaAbs addr) := ⟨rfl, rfl⟩
theorem Sys2Proof.Laws.Encoding.ldaIndY (zp : Sys2Proof.Byte) : Sys2Proof.Laws.Encoding.Statement (.ldaIndY zp) := ⟨rfl, rfl⟩
theorem Sys2Proof.Laws.Encoding.ldaZpX (zp : Sys2Proof.Byte) : Sys2Proof.Laws.Encoding.Statement (.ldaZpX zp) := ⟨rfl, rfl⟩
theorem Sys2Proof.Laws.Encoding.ldaAbsY (addr : Sys2Proof.Addr) : Sys2Proof.Laws.Encoding.Statement (.ldaAbsY addr) := ⟨rfl, rfl⟩
theorem Sys2Proof.Laws.Encoding.ldaAbsX (addr : Sys2Proof.Addr) : Sys2Proof.Laws.Encoding.Statement (.ldaAbsX addr) := ⟨rfl, rfl⟩
theorem Sys2Proof.Laws.Encoding.ldxImm (imm : Sys2Proof.Byte) : Sys2Proof.Laws.Encoding.Statement (.ldxImm imm) := ⟨rfl, rfl⟩
theorem Sys2Proof.Laws.Encoding.ldxZp (zp : Sys2Proof.Byte) : Sys2Proof.Laws.Encoding.Statement (.ldxZp zp) := ⟨rfl, rfl⟩
theorem Sys2Proof.Laws.Encoding.ldxAbs (addr : Sys2Proof.Addr) : Sys2Proof.Laws.Encoding.Statement (.ldxAbs addr) := ⟨rfl, rfl⟩
theorem Sys2Proof.Laws.Encoding.ldxZpY (zp : Sys2Proof.Byte) : Sys2Proof.Laws.Encoding.Statement (.ldxZpY zp) := ⟨rfl, rfl⟩
theorem Sys2Proof.Laws.Encoding.ldxAbsY (addr : Sys2Proof.Addr) : Sys2Proof.Laws.Encoding.Statement (.ldxAbsY addr) := ⟨rfl, rfl⟩
theorem Sys2Proof.Laws.Encoding.ldyImm (imm : Sys2Proof.Byte) : Sys2Proof.Laws.Encoding.Statement (.ldyImm imm) := ⟨rfl, rfl⟩
theorem Sys2Proof.Laws.Encoding.ldyZp (zp : Sys2Proof.Byte) : Sys2Proof.Laws.Encoding.Statement (.ldyZp zp) := ⟨rfl, rfl⟩
theorem Sys2Proof.Laws.Encoding.ldyAbs (addr : Sys2Proof.Addr) : Sys2Proof.Laws.Encoding.Statement (.ldyAbs addr) := ⟨rfl, rfl⟩
theorem Sys2Proof.Laws.Encoding.ldyZpX (zp : Sys2Proof.Byte) : Sys2Proof.Laws.Encoding.Statement (.ldyZpX zp) := ⟨rfl, rfl⟩
theorem Sys2Proof.Laws.Encoding.ldyAbsX (addr : Sys2Proof.Addr) : Sys2Proof.Laws.Encoding.Statement (.ldyAbsX addr) := ⟨rfl, rfl⟩
theorem Sys2Proof.Laws.Encoding.staIndX (zp : Sys2Proof.Byte) : Sys2Proof.Laws.Encoding.Statement (.staIndX zp) := ⟨rfl, rfl⟩
theorem Sys2Proof.Laws.Encoding.staZp (zp : Sys2Proof.Byte) : Sys2Proof.Laws.Encoding.Statement (.staZp zp) := ⟨rfl, rfl⟩
theorem Sys2Proof.Laws.Encoding.staAbs (addr : Sys2Proof.Addr) : Sys2Proof.Laws.Encoding.Statement (.staAbs addr) := ⟨rfl, rfl⟩
theorem Sys2Proof.Laws.Encoding.staIndY (zp : Sys2Proof.Byte) : Sys2Proof.Laws.Encoding.Statement (.staIndY zp) := ⟨rfl, rfl⟩
theorem Sys2Proof.Laws.Encoding.staZpX (zp : Sys2Proof.Byte) : Sys2Proof.Laws.Encoding.Statement (.staZpX zp) := ⟨rfl, rfl⟩
theorem Sys2Proof.Laws.Encoding.staAbsY (addr : Sys2Proof.Addr) : Sys2Proof.Laws.Encoding.Statement (.staAbsY addr) := ⟨rfl, rfl⟩
theorem Sys2Proof.Laws.Encoding.staAbsX (addr : Sys2Proof.Addr) : Sys2Proof.Laws.Encoding.Statement (.staAbsX addr) := ⟨rfl, rfl⟩
theorem Sys2Proof.Laws.Encoding.stxZp (zp : Sys2Proof.Byte) : Sys2Proof.Laws.Encoding.Statement (.stxZp zp) := ⟨rfl, rfl⟩
theorem Sys2Proof.Laws.Encoding.stxAbs (addr : Sys2Proof.Addr) : Sys2Proof.Laws.Encoding.Statement (.stxAbs addr) := ⟨rfl, rfl⟩
theorem Sys2Proof.Laws.Encoding.stxZpY (zp : Sys2Proof.Byte) : Sys2Proof.Laws.Encoding.Statement (.stxZpY zp) := ⟨rfl, rfl⟩
theorem Sys2Proof.Laws.Encoding.styZp (zp : Sys2Proof.Byte) : Sys2Proof.Laws.Encoding.Statement (.styZp zp) := ⟨rfl, rfl⟩
theorem Sys2Proof.Laws.Encoding.styAbs (addr : Sys2Proof.Addr) : Sys2Proof.Laws.Encoding.Statement (.styAbs addr) := ⟨rfl, rfl⟩
theorem Sys2Proof.Laws.Encoding.styZpX (zp : Sys2Proof.Byte) : Sys2Proof.Laws.Encoding.Statement (.styZpX zp) := ⟨rfl, rfl⟩
theorem Sys2Proof.Laws.Encoding.tax : Sys2Proof.Laws.Encoding.Statement (.tax) := ⟨rfl, rfl⟩
theorem Sys2Proof.Laws.Encoding.tay : Sys2Proof.Laws.Encoding.Statement (.tay) := ⟨rfl, rfl⟩
theorem Sys2Proof.Laws.Encoding.txa : Sys2Proof.Laws.Encoding.Statement (.txa) := ⟨rfl, rfl⟩
theorem Sys2Proof.Laws.Encoding.tya : Sys2Proof.Laws.Encoding.Statement (.tya) := ⟨rfl, rfl⟩
theorem Sys2Proof.Laws.Encoding.tsx : Sys2Proof.Laws.Encoding.Statement (.tsx) := ⟨rfl, rfl⟩
theorem Sys2Proof.Laws.Encoding.txs : Sys2Proof.Laws.Encoding.Statement (.txs) := ⟨rfl, rfl⟩
theorem Sys2Proof.Laws.Encoding.adcIndX (zp : Sys2Proof.Byte) : Sys2Proof.Laws.Encoding.Statement (.adcIndX zp) := ⟨rfl, rfl⟩
theorem Sys2Proof.Laws.Encoding.adcZp (zp : Sys2Proof.Byte) : Sys2Proof.Laws.Encoding.Statement (.adcZp zp) := ⟨rfl, rfl⟩
theorem Sys2Proof.Laws.Encoding.adcImm (imm : Sys2Proof.Byte) : Sys2Proof.Laws.Encoding.Statement (.adcImm imm) := ⟨rfl, rfl⟩
theorem Sys2Proof.Laws.Encoding.adcAbs (addr : Sys2Proof.Addr) : Sys2Proof.Laws.Encoding.Statement (.adcAbs addr) := ⟨rfl, rfl⟩
theorem Sys2Proof.Laws.Encoding.adcIndY (zp : Sys2Proof.Byte) : Sys2Proof.Laws.Encoding.Statement (.adcIndY zp) := ⟨rfl, rfl⟩
theorem Sys2Proof.Laws.Encoding.adcZpX (zp : Sys2Proof.Byte) : Sys2Proof.Laws.Encoding.Statement (.adcZpX zp) := ⟨rfl, rfl⟩
theorem Sys2Proof.Laws.Encoding.adcAbsY (addr : Sys2Proof.Addr) : Sys2Proof.Laws.Encoding.Statement (.adcAbsY addr) := ⟨rfl, rfl⟩
theorem Sys2Proof.Laws.Encoding.adcAbsX (addr : Sys2Proof.Addr) : Sys2Proof.Laws.Encoding.Statement (.adcAbsX addr) := ⟨rfl, rfl⟩
theorem Sys2Proof.Laws.Encoding.sbcIndX (zp : Sys2Proof.Byte) : Sys2Proof.Laws.Encoding.Statement (.sbcIndX zp) := ⟨rfl, rfl⟩
theorem Sys2Proof.Laws.Encoding.sbcZp (zp : Sys2Proof.Byte) : Sys2Proof.Laws.Encoding.Statement (.sbcZp zp) := ⟨rfl, rfl⟩
theorem Sys2Proof.Laws.Encoding.sbcImm (imm : Sys2Proof.Byte) : Sys2Proof.Laws.Encoding.Statement (.sbcImm imm) := ⟨rfl, rfl⟩
theorem Sys2Proof.Laws.Encoding.sbcAbs (addr : Sys2Proof.Addr) : Sys2Proof.Laws.Encoding.Statement (.sbcAbs addr) := ⟨rfl, rfl⟩
theorem Sys2Proof.Laws.Encoding.sbcIndY (zp : Sys2Proof.Byte) : Sys2Proof.Laws.Encoding.Statement (.sbcIndY zp) := ⟨rfl, rfl⟩
theorem Sys2Proof.Laws.Encoding.sbcZpX (zp : Sys2Proof.Byte) : Sys2Proof.Laws.Encoding.Statement (.sbcZpX zp) := ⟨rfl, rfl⟩
theorem Sys2Proof.Laws.Encoding.sbcAbsY (addr : Sys2Proof.Addr) : Sys2Proof.Laws.Encoding.Statement (.sbcAbsY addr) := ⟨rfl, rfl⟩
theorem Sys2Proof.Laws.Encoding.sbcAbsX (addr : Sys2Proof.Addr) : Sys2Proof.Laws.Encoding.Statement (.sbcAbsX addr) := ⟨rfl, rfl⟩
theorem Sys2Proof.Laws.Encoding.cmpIndX (zp : Sys2Proof.Byte) : Sys2Proof.Laws.Encoding.Statement (.cmpIndX zp) := ⟨rfl, rfl⟩
theorem Sys2Proof.Laws.Encoding.cmpZp (zp : Sys2Proof.Byte) : Sys2Proof.Laws.Encoding.Statement (.cmpZp zp) := ⟨rfl, rfl⟩
theorem Sys2Proof.Laws.Encoding.cmpImm (imm : Sys2Proof.Byte) : Sys2Proof.Laws.Encoding.Statement (.cmpImm imm) := ⟨rfl, rfl⟩
theorem Sys2Proof.Laws.Encoding.cmpAbs (addr : Sys2Proof.Addr) : Sys2Proof.Laws.Encoding.Statement (.cmpAbs addr) := ⟨rfl, rfl⟩
theorem Sys2Proof.Laws.Encoding.cmpIndY (zp : Sys2Proof.Byte) : Sys2Proof.Laws.Encoding.Statement (.cmpIndY zp) := ⟨rfl, rfl⟩
theorem Sys2Proof.Laws.Encoding.cmpZpX (zp : Sys2Proof.Byte) : Sys2Proof.Laws.Encoding.Statement (.cmpZpX zp) := ⟨rfl, rfl⟩
theorem Sys2Proof.Laws.Encoding.cmpAbsY (addr : Sys2Proof.Addr) : Sys2Proof.Laws.Encoding.Statement (.cmpAbsY addr) := ⟨rfl, rfl⟩
theorem Sys2Proof.Laws.Encoding.cmpAbsX (addr : Sys2Proof.Addr) : Sys2Proof.Laws.Encoding.Statement (.cmpAbsX addr) := ⟨rfl, rfl⟩
theorem Sys2Proof.Laws.Encoding.cpxImm (imm : Sys2Proof.Byte) : Sys2Proof.Laws.Encoding.Statement (.cpxImm imm) := ⟨rfl, rfl⟩
theorem Sys2Proof.Laws.Encoding.cpxZp (zp : Sys2Proof.Byte) : Sys2Proof.Laws.Encoding.Statement (.cpxZp zp) := ⟨rfl, rfl⟩
theorem Sys2Proof.Laws.Encoding.cpxAbs (addr : Sys2Proof.Addr) : Sys2Proof.Laws.Encoding.Statement (.cpxAbs addr) := ⟨rfl, rfl⟩
theorem Sys2Proof.Laws.Encoding.cpyImm (imm : Sys2Proof.Byte) : Sys2Proof.Laws.Encoding.Statement (.cpyImm imm) := ⟨rfl, rfl⟩
theorem Sys2Proof.Laws.Encoding.cpyZp (zp : Sys2Proof.Byte) : Sys2Proof.Laws.Encoding.Statement (.cpyZp zp) := ⟨rfl, rfl⟩
theorem Sys2Proof.Laws.Encoding.cpyAbs (addr : Sys2Proof.Addr) : Sys2Proof.Laws.Encoding.Statement (.cpyAbs addr) := ⟨rfl, rfl⟩
theorem Sys2Proof.Laws.Encoding.incZp (zp : Sys2Proof.Byte) : Sys2Proof.Laws.Encoding.Statement (.incZp zp) := ⟨rfl, rfl⟩
theorem Sys2Proof.Laws.Encoding.incAbs (addr : Sys2Proof.Addr) : Sys2Proof.Laws.Encoding.Statement (.incAbs addr) := ⟨rfl, rfl⟩
theorem Sys2Proof.Laws.Encoding.incZpX (zp : Sys2Proof.Byte) : Sys2Proof.Laws.Encoding.Statement (.incZpX zp) := ⟨rfl, rfl⟩
theorem Sys2Proof.Laws.Encoding.incAbsX (addr : Sys2Proof.Addr) : Sys2Proof.Laws.Encoding.Statement (.incAbsX addr) := ⟨rfl, rfl⟩
theorem Sys2Proof.Laws.Encoding.decZp (zp : Sys2Proof.Byte) : Sys2Proof.Laws.Encoding.Statement (.decZp zp) := ⟨rfl, rfl⟩
theorem Sys2Proof.Laws.Encoding.decAbs (addr : Sys2Proof.Addr) : Sys2Proof.Laws.Encoding.Statement (.decAbs addr) := ⟨rfl, rfl⟩
theorem Sys2Proof.Laws.Encoding.decZpX (zp : Sys2Proof.Byte) : Sys2Proof.Laws.Encoding.Statement (.decZpX zp) := ⟨rfl, rfl⟩
theorem Sys2Proof.Laws.Encoding.decAbsX (addr : Sys2Proof.Addr) : Sys2Proof.Laws.Encoding.Statement (.decAbsX addr) := ⟨rfl, rfl⟩
theorem Sys2Proof.Laws.Encoding.inx : Sys2Proof.Laws.Encoding.Statement (.inx) := ⟨rfl, rfl⟩
theorem Sys2Proof.Laws.Encoding.iny : Sys2Proof.Laws.Encoding.Statement (.iny) := ⟨rfl, rfl⟩
theorem Sys2Proof.Laws.Encoding.dex : Sys2Proof.Laws.Encoding.Statement (.dex) := ⟨rfl, rfl⟩
theorem Sys2Proof.Laws.Encoding.dey : Sys2Proof.Laws.Encoding.Statement (.dey) := ⟨rfl, rfl⟩
theorem Sys2Proof.Laws.Encoding.andIndX (zp : Sys2Proof.Byte) : Sys2Proof.Laws.Encoding.Statement (.andIndX zp) := ⟨rfl, rfl⟩
theorem Sys2Proof.Laws.Encoding.andZp (zp : Sys2Proof.Byte) : Sys2Proof.Laws.Encoding.Statement (.andZp zp) := ⟨rfl, rfl⟩
theorem Sys2Proof.Laws.Encoding.andImm (imm : Sys2Proof.Byte) : Sys2Proof.Laws.Encoding.Statement (.andImm imm) := ⟨rfl, rfl⟩
theorem Sys2Proof.Laws.Encoding.andAbs (addr : Sys2Proof.Addr) : Sys2Proof.Laws.Encoding.Statement (.andAbs addr) := ⟨rfl, rfl⟩
theorem Sys2Proof.Laws.Encoding.andIndY (zp : Sys2Proof.Byte) : Sys2Proof.Laws.Encoding.Statement (.andIndY zp) := ⟨rfl, rfl⟩
theorem Sys2Proof.Laws.Encoding.andZpX (zp : Sys2Proof.Byte) : Sys2Proof.Laws.Encoding.Statement (.andZpX zp) := ⟨rfl, rfl⟩
theorem Sys2Proof.Laws.Encoding.andAbsY (addr : Sys2Proof.Addr) : Sys2Proof.Laws.Encoding.Statement (.andAbsY addr) := ⟨rfl, rfl⟩
theorem Sys2Proof.Laws.Encoding.andAbsX (addr : Sys2Proof.Addr) : Sys2Proof.Laws.Encoding.Statement (.andAbsX addr) := ⟨rfl, rfl⟩
theorem Sys2Proof.Laws.Encoding.oraIndX (zp : Sys2Proof.Byte) : Sys2Proof.Laws.Encoding.Statement (.oraIndX zp) := ⟨rfl, rfl⟩
theorem Sys2Proof.Laws.Encoding.oraZp (zp : Sys2Proof.Byte) : Sys2Proof.Laws.Encoding.Statement (.oraZp zp) := ⟨rfl, rfl⟩
theorem Sys2Proof.Laws.Encoding.oraImm (imm : Sys2Proof.Byte) : Sys2Proof.Laws.Encoding.Statement (.oraImm imm) := ⟨rfl, rfl⟩
theorem Sys2Proof.Laws.Encoding.oraAbs (addr : Sys2Proof.Addr) : Sys2Proof.Laws.Encoding.Statement (.oraAbs addr) := ⟨rfl, rfl⟩
theorem Sys2Proof.Laws.Encoding.oraIndY (zp : Sys2Proof.Byte) : Sys2Proof.Laws.Encoding.Statement (.oraIndY zp) := ⟨rfl, rfl⟩
theorem Sys2Proof.Laws.Encoding.oraZpX (zp : Sys2Proof.Byte) : Sys2Proof.Laws.Encoding.Statement (.oraZpX zp) := ⟨rfl, rfl⟩
theorem Sys2Proof.Laws.Encoding.oraAbsY (addr : Sys2Proof.Addr) : Sys2Proof.Laws.Encoding.Statement (.oraAbsY addr) := ⟨rfl, rfl⟩
theorem Sys2Proof.Laws.Encoding.oraAbsX (addr : Sys2Proof.Addr) : Sys2Proof.Laws.Encoding.Statement (.oraAbsX addr) := ⟨rfl, rfl⟩
theorem Sys2Proof.Laws.Encoding.eorIndX (zp : Sys2Proof.Byte) : Sys2Proof.Laws.Encoding.Statement (.eorIndX zp) := ⟨rfl, rfl⟩
theorem Sys2Proof.Laws.Encoding.eorZp (zp : Sys2Proof.Byte) : Sys2Proof.Laws.Encoding.Statement (.eorZp zp) := ⟨rfl, rfl⟩
theorem Sys2Proof.Laws.Encoding.eorImm (imm : Sys2Proof.Byte) : Sys2Proof.Laws.Encoding.Statement (.eorImm imm) := ⟨rfl, rfl⟩
theorem Sys2Proof.Laws.Encoding.eorAbs (addr : Sys2Proof.Addr) : Sys2Proof.Laws.Encoding.Statement (.eorAbs addr) := ⟨rfl, rfl⟩
theorem Sys2Proof.Laws.Encoding.eorIndY (zp : Sys2Proof.Byte) : Sys2Proof.Laws.Encoding.Statement (.eorIndY zp) := ⟨rfl, rfl⟩
theorem Sys2Proof.Laws.Encoding.eorZpX (zp : Sys2Proof.Byte) : Sys2Proof.Laws.Encoding.Statement (.eorZpX zp) := ⟨rfl, rfl⟩
theorem Sys2Proof.Laws.Encoding.eorAbsY (addr : Sys2Proof.Addr) : Sys2Proof.Laws.Encoding.Statement (.eorAbsY addr) := ⟨rfl, rfl⟩
theorem Sys2Proof.Laws.Encoding.eorAbsX (addr : Sys2Proof.Addr) : Sys2Proof.Laws.Encoding.Statement (.eorAbsX addr) := ⟨rfl, rfl⟩
theorem Sys2Proof.Laws.Encoding.bitZp (zp : Sys2Proof.Byte) : Sys2Proof.Laws.Encoding.Statement (.bitZp zp) := ⟨rfl, rfl⟩
theorem Sys2Proof.Laws.Encoding.bitAbs (addr : Sys2Proof.Addr) : Sys2Proof.Laws.Encoding.Statement (.bitAbs addr) := ⟨rfl, rfl⟩
theorem Sys2Proof.Laws.Encoding.aslZp (zp : Sys2Proof.Byte) : Sys2Proof.Laws.Encoding.Statement (.aslZp zp) := ⟨rfl, rfl⟩
theorem Sys2Proof.Laws.Encoding.aslAcc : Sys2Proof.Laws.Encoding.Statement (.aslAcc) := ⟨rfl, rfl⟩
theorem Sys2Proof.Laws.Encoding.aslAbs (addr : Sys2Proof.Addr) : Sys2Proof.Laws.Encoding.Statement (.aslAbs addr) := ⟨rfl, rfl⟩
theorem Sys2Proof.Laws.Encoding.aslZpX (zp : Sys2Proof.Byte) : Sys2Proof.Laws.Encoding.Statement (.aslZpX zp) := ⟨rfl, rfl⟩
theorem Sys2Proof.Laws.Encoding.aslAbsX (addr : Sys2Proof.Addr) : Sys2Proof.Laws.Encoding.Statement (.aslAbsX addr) := ⟨rfl, rfl⟩
theorem Sys2Proof.Laws.Encoding.lsrZp (zp : Sys2Proof.Byte) : Sys2Proof.Laws.Encoding.Statement (.lsrZp zp) := ⟨rfl, rfl⟩
theorem Sys2Proof.Laws.Encoding.lsrAcc : Sys2Proof.Laws.Encoding.Statement (.lsrAcc) := ⟨rfl, rfl⟩
theorem Sys2Proof.Laws.Encoding.lsrAbs (addr : Sys2Proof.Addr) : Sys2Proof.Laws.Encoding.Statement (.lsrAbs addr) := ⟨rfl, rfl⟩
theorem Sys2Proof.Laws.Encoding.lsrZpX (zp : Sys2Proof.Byte) : Sys2Proof.Laws.Encoding.Statement (.lsrZpX zp) := ⟨rfl, rfl⟩
theorem Sys2Proof.Laws.Encoding.lsrAbsX (addr : Sys2Proof.Addr) : Sys2Proof.Laws.Encoding.Statement (.lsrAbsX addr) := ⟨rfl, rfl⟩
theorem Sys2Proof.Laws.Encoding.rolZp (zp : Sys2Proof.Byte) : Sys2Proof.Laws.Encoding.Statement (.rolZp zp) := ⟨rfl, rfl⟩
theorem Sys2Proof.Laws.Encoding.rolAcc : Sys2Proof.Laws.Encoding.Statement (.rolAcc) := ⟨rfl, rfl⟩
theorem Sys2Proof.Laws.Encoding.rolAbs (addr : Sys2Proof.Addr) : Sys2Proof.Laws.Encoding.Statement (.rolAbs addr) := ⟨rfl, rfl⟩
theorem Sys2Proof.Laws.Encoding.rolZpX (zp : Sys2Proof.Byte) : Sys2Proof.Laws.Encoding.Statement (.rolZpX zp) := ⟨rfl, rfl⟩
theorem Sys2Proof.Laws.Encoding.rolAbsX (addr : Sys2Proof.Addr) : Sys2Proof.Laws.Encoding.Statement (.rolAbsX addr) := ⟨rfl, rfl⟩
theorem Sys2Proof.Laws.Encoding.rorZp (zp : Sys2Proof.Byte) : Sys2Proof.Laws.Encoding.Statement (.rorZp zp) := ⟨rfl, rfl⟩
theorem Sys2Proof.Laws.Encoding.rorAcc : Sys2Proof.Laws.Encoding.Statement (.rorAcc) := ⟨rfl, rfl⟩
theorem Sys2Proof.Laws.Encoding.rorAbs (addr : Sys2Proof.Addr) : Sys2Proof.Laws.Encoding.Statement (.rorAbs addr) := ⟨rfl, rfl⟩
theorem Sys2Proof.Laws.Encoding.rorZpX (zp : Sys2Proof.Byte) : Sys2Proof.Laws.Encoding.Statement (.rorZpX zp) := ⟨rfl, rfl⟩
theorem Sys2Proof.Laws.Encoding.rorAbsX (addr : Sys2Proof.Addr) : Sys2Proof.Laws.Encoding.Statement (.rorAbsX addr) := ⟨rfl, rfl⟩
theorem Sys2Proof.Laws.Encoding.jmpAbs (addr : Sys2Proof.Addr) : Sys2Proof.Laws.Encoding.Statement (.jmpAbs addr) := ⟨rfl, rfl⟩
theorem Sys2Proof.Laws.Encoding.jmpInd (addr : Sys2Proof.Addr) : Sys2Proof.Laws.Encoding.Statement (.jmpInd addr) := ⟨rfl, rfl⟩
theorem Sys2Proof.Laws.Encoding.jsr (addr : Sys2Proof.Addr) : Sys2Proof.Laws.Encoding.Statement (.jsr addr) := ⟨rfl, rfl⟩
theorem Sys2Proof.Laws.Encoding.rts : Sys2Proof.Laws.Encoding.Statement (.rts) := ⟨rfl, rfl⟩
theorem Sys2Proof.Laws.Encoding.rti : Sys2Proof.Laws.Encoding.Statement (.rti) := ⟨rfl, rfl⟩
theorem Sys2Proof.Laws.Encoding.bpl (rel : Sys2Proof.Byte) : Sys2Proof.Laws.Encoding.Statement (.bpl rel) := ⟨rfl, rfl⟩
theorem Sys2Proof.Laws.Encoding.bmi (rel : Sys2Proof.Byte) : Sys2Proof.Laws.Encoding.Statement (.bmi rel) := ⟨rfl, rfl⟩
theorem Sys2Proof.Laws.Encoding.bvc (rel : Sys2Proof.Byte) : Sys2Proof.Laws.Encoding.Statement (.bvc rel) := ⟨rfl, rfl⟩
theorem Sys2Proof.Laws.Encoding.bvs (rel : Sys2Proof.Byte) : Sys2Proof.Laws.Encoding.Statement (.bvs rel) := ⟨rfl, rfl⟩
theorem Sys2Proof.Laws.Encoding.bcc (rel : Sys2Proof.Byte) : Sys2Proof.Laws.Encoding.Statement (.bcc rel) := ⟨rfl, rfl⟩
theorem Sys2Proof.Laws.Encoding.bcs (rel : Sys2Proof.Byte) : Sys2Proof.Laws.Encoding.Statement (.bcs rel) := ⟨rfl, rfl⟩
theorem Sys2Proof.Laws.Encoding.bne (rel : Sys2Proof.Byte) : Sys2Proof.Laws.Encoding.Statement (.bne rel) := ⟨rfl, rfl⟩
theorem Sys2Proof.Laws.Encoding.beq (rel : Sys2Proof.Byte) : Sys2Proof.Laws.Encoding.Statement (.beq rel) := ⟨rfl, rfl⟩
theorem Sys2Proof.Laws.Encoding.brk : Sys2Proof.Laws.Encoding.Statement (.brk) := ⟨rfl, rfl⟩
theorem Sys2Proof.Laws.Encoding.nop : Sys2Proof.Laws.Encoding.Statement (.nop) := ⟨rfl, rfl⟩
theorem Sys2Proof.Laws.Encoding.pha : Sys2Proof.Laws.Encoding.Statement (.pha) := ⟨rfl, rfl⟩
theorem Sys2Proof.Laws.Encoding.php : Sys2Proof.Laws.Encoding.Statement (.php) := ⟨rfl, rfl⟩
theorem Sys2Proof.Laws.Encoding.pla : Sys2Proof.Laws.Encoding.Statement (.pla) := ⟨rfl, rfl⟩
theorem Sys2Proof.Laws.Encoding.plp : Sys2Proof.Laws.Encoding.Statement (.plp) := ⟨rfl, rfl⟩
theorem Sys2Proof.Laws.Encoding.clc : Sys2Proof.Laws.Encoding.Statement (.clc) := ⟨rfl, rfl⟩
theorem Sys2Proof.Laws.Encoding.sec : Sys2Proof.Laws.Encoding.Statement (.sec) := ⟨rfl, rfl⟩
theorem Sys2Proof.Laws.Encoding.cli : Sys2Proof.Laws.Encoding.Statement (.cli) := ⟨rfl, rfl⟩
theorem Sys2Proof.Laws.Encoding.sei : Sys2Proof.Laws.Encoding.Statement (.sei) := ⟨rfl, rfl⟩
theorem Sys2Proof.Laws.Encoding.cld : Sys2Proof.Laws.Encoding.Statement (.cld) := ⟨rfl, rfl⟩
theorem Sys2Proof.Laws.Encoding.sed : Sys2Proof.Laws.Encoding.Statement (.sed) := ⟨rfl, rfl⟩
theorem Sys2Proof.Laws.Encoding.clv : Sys2Proof.Laws.Encoding.Statement (.clv) := ⟨rfl, rfl⟩
end

