-- ==== Sys2Proof/Laws/Words.lean ====
section
/-! SUPPORT. Bytes and addresses as numbers: the two halves of an address, extension, the stack and zero-page addresses. -/

namespace Sys2Proof

@[simp] theorem toNat_hiLo (h l : Byte) : (hiLo h l).toNat = 256 * h.toNat + l.toNat := by
  have hl := l.isLt
  simp only [hiLo, BitVec.toNat_append]
  rw [← Nat.shiftLeft_add_eq_or_of_lt hl, Nat.shiftLeft_eq]
  omega

@[simp] theorem toNat_loByte (w : Addr) : (loByte w).toNat = w.toNat % 256 := by
  simp [loByte, BitVec.extractLsb'_toNat]

@[simp] theorem toNat_hiByte (w : Addr) : (hiByte w).toNat = w.toNat / 256 := by
  have := w.isLt
  simp only [hiByte, BitVec.extractLsb'_toNat, Nat.shiftRight_eq_div_pow]
  omega

@[simp] theorem toNat_zext16 (b : Byte) : (zext16 b).toNat = b.toNat := by
  have := b.isLt
  simp only [zext16, BitVec.toNat_setWidth]
  omega

/-- An address is its two halves (R7). -/
@[simp] theorem hiLo_hiByte_loByte (w : Addr) : hiLo (hiByte w) (loByte w) = w := by
  apply BitVec.eq_of_toNat_eq
  simp only [toNat_hiLo, toNat_hiByte, toNat_loByte]
  omega

@[simp] theorem loByte_hiLo (h l : Byte) : loByte (hiLo h l) = l := by
  apply BitVec.eq_of_toNat_eq
  have := l.isLt
  simp only [toNat_hiLo, toNat_loByte]
  omega

@[simp] theorem hiByte_hiLo (h l : Byte) : hiByte (hiLo h l) = h := by
  apply BitVec.eq_of_toNat_eq
  have := l.isLt
  simp only [toNat_hiLo, toNat_hiByte]
  omega

/-- A pair of bytes is determined by its number. -/
theorem hiLo_eq_ofNat (h l : Byte) : hiLo h l = BitVec.ofNat 16 (256 * h.toNat + l.toNat) := by
  apply BitVec.eq_of_toNat_eq
  have h1 := h.isLt
  have h2 := l.isLt
  simp only [toNat_hiLo, BitVec.toNat_ofNat]
  omega

end Sys2Proof

namespace Sys2Proof.Machine

/-- A byte placed in a page by OR is the page's base plus the byte. -/
theorem toNat_or_zext16 (page : Addr) (o : Byte) (h : page.toNat % 256 = 0) :
    (page ||| zext16 o).toNat = page.toNat + o.toNat := by
  have ho := o.isLt
  obtain ⟨k, hk⟩ : ∃ k, page.toNat = k <<< 8 := ⟨page.toNat / 256, by rw [Nat.shiftLeft_eq]; omega⟩
  rw [BitVec.toNat_or, toNat_zext16, hk, Nat.shiftLeft_add_eq_or_of_lt ho]

/-- A stack slot lies in page 0x01 (R30). -/
@[simp] theorem toNat_stackAddr (slot : Byte) : (stackAddr slot).toNat = 256 + slot.toNat :=
  toNat_or_zext16 0x0100 slot (by decide)

/-- Different values of S are different slots. -/
theorem stackAddr_injective {a b : Byte} (h : stackAddr a = stackAddr b) : a = b := by
  have := congrArg BitVec.toNat h
  simp only [toNat_stackAddr] at this
  exact BitVec.eq_of_toNat_eq (by omega)

end Sys2Proof.Machine
end

