-- ==== Sys2Proof/Tests/Slice0.lean ====
section
/-! SUPPORT. Tests: ill-formed configurations refused, decoding, one-step vectors of spec/95_test_vectors, and a witness for
the hypotheses of every obligation that has some. Every expected result is from spec/, none from the model. -/

namespace Sys2Proof.Tests

open Sys2Proof Sys2Proof.Machine Sys2Proof.Claims

/-! ## Well-formedness (20_memory R56) -/

/-- A configuration with the two ranges. -/
def twoRanges (a b c d : Addr) : Config :=
  { Config.default with peripherals := [⟨a, b, 1⟩, ⟨c, d, 2⟩] }

/-- Ranges that share one address are ill-formed. -/
theorem test_wf_overlap : (twoRanges 0xD000 0xD0FF 0xD0FF 0xD1FF).wellFormed = false := by decide
/-- A range inside another is ill-formed. -/
theorem test_wf_nested : (twoRanges 0xD000 0xD0FF 0xD010 0xD020).wellFormed = false := by decide
/-- A reversed range is ill-formed. -/
theorem test_wf_reversed : (twoRanges 0xD001 0xD000 0xE000 0xE000).wellFormed = false := by decide
/-- Adjacent ranges are well-formed. -/
theorem test_wf_adjacent : (twoRanges 0xD000 0xD0FF 0xD100 0xD100).wellFormed = true := by decide
/-- An ill-formed configuration is refused. -/
theorem test_wf_refused :
    step { State.reset with cfg := twoRanges 0xD001 0xD000 0xE000 0xE000 } = .refused .illFormedConfiguration := rfl

/-! ## Decoding: every constructor's word, written out from the spec's encoding -/

/-- Each word decodes to its instruction, with nothing left. -/
def decodesTo (words : List (List Byte × Instr)) : Bool := words.all fun w => decide (decode w.1 = .instr w.2 [])

/-- 30_encoding R83, R84: the words of every 41 form. -/
theorem test_decode_loads_stores_transfers :
    decodesTo [
    ([0xA1, 0x34], .ldaIndX 0x34), ([0xA5, 0x34], .ldaZp 0x34), ([0xA9, 0x34], .ldaImm 0x34),
    ([0xAD, 0x34, 0x12], .ldaAbs 0x1234), ([0xB1, 0x34], .ldaIndY 0x34), ([0xB5, 0x34], .ldaZpX 0x34),
    ([0xB9, 0x34, 0x12], .ldaAbsY 0x1234), ([0xBD, 0x34, 0x12], .ldaAbsX 0x1234), ([0xA2, 0x34], .ldxImm 0x34),
    ([0xA6, 0x34], .ldxZp 0x34), ([0xAE, 0x34, 0x12], .ldxAbs 0x1234), ([0xB6, 0x34], .ldxZpY 0x34),
    ([0xBE, 0x34, 0x12], .ldxAbsY 0x1234), ([0xA0, 0x34], .ldyImm 0x34), ([0xA4, 0x34], .ldyZp 0x34),
    ([0xAC, 0x34, 0x12], .ldyAbs 0x1234), ([0xB4, 0x34], .ldyZpX 0x34), ([0xBC, 0x34, 0x12], .ldyAbsX 0x1234),
    ([0x81, 0x34], .staIndX 0x34), ([0x85, 0x34], .staZp 0x34), ([0x8D, 0x34, 0x12], .staAbs 0x1234),
    ([0x91, 0x34], .staIndY 0x34), ([0x95, 0x34], .staZpX 0x34), ([0x99, 0x34, 0x12], .staAbsY 0x1234),
    ([0x9D, 0x34, 0x12], .staAbsX 0x1234), ([0x86, 0x34], .stxZp 0x34), ([0x8E, 0x34, 0x12], .stxAbs 0x1234),
    ([0x96, 0x34], .stxZpY 0x34), ([0x84, 0x34], .styZp 0x34), ([0x8C, 0x34, 0x12], .styAbs 0x1234),
    ([0x94, 0x34], .styZpX 0x34), ([0xAA], .tax), ([0xA8], .tay), ([0x8A], .txa), ([0x98], .tya), ([0xBA], .tsx),
    ([0x9A], .txs)] = true := by decide

/-- 30_encoding R83, R84: the words of every 42 form. -/
theorem test_decode_arithmetic :
    decodesTo [
    ([0x61, 0x34], .adcIndX 0x34), ([0x65, 0x34], .adcZp 0x34), ([0x69, 0x34], .adcImm 0x34),
    ([0x6D, 0x34, 0x12], .adcAbs 0x1234), ([0x71, 0x34], .adcIndY 0x34), ([0x75, 0x34], .adcZpX 0x34),
    ([0x79, 0x34, 0x12], .adcAbsY 0x1234), ([0x7D, 0x34, 0x12], .adcAbsX 0x1234), ([0xE1, 0x34], .sbcIndX 0x34),
    ([0xE5, 0x34], .sbcZp 0x34), ([0xE9, 0x34], .sbcImm 0x34), ([0xED, 0x34, 0x12], .sbcAbs 0x1234),
    ([0xF1, 0x34], .sbcIndY 0x34), ([0xF5, 0x34], .sbcZpX 0x34), ([0xF9, 0x34, 0x12], .sbcAbsY 0x1234),
    ([0xFD, 0x34, 0x12], .sbcAbsX 0x1234), ([0xC1, 0x34], .cmpIndX 0x34), ([0xC5, 0x34], .cmpZp 0x34),
    ([0xC9, 0x34], .cmpImm 0x34), ([0xCD, 0x34, 0x12], .cmpAbs 0x1234), ([0xD1, 0x34], .cmpIndY 0x34),
    ([0xD5, 0x34], .cmpZpX 0x34), ([0xD9, 0x34, 0x12], .cmpAbsY 0x1234), ([0xDD, 0x34, 0x12], .cmpAbsX 0x1234),
    ([0xE0, 0x34], .cpxImm 0x34), ([0xE4, 0x34], .cpxZp 0x34), ([0xEC, 0x34, 0x12], .cpxAbs 0x1234),
    ([0xC0, 0x34], .cpyImm 0x34), ([0xC4, 0x34], .cpyZp 0x34), ([0xCC, 0x34, 0x12], .cpyAbs 0x1234),
    ([0xE6, 0x34], .incZp 0x34), ([0xEE, 0x34, 0x12], .incAbs 0x1234), ([0xF6, 0x34], .incZpX 0x34),
    ([0xFE, 0x34, 0x12], .incAbsX 0x1234), ([0xC6, 0x34], .decZp 0x34), ([0xCE, 0x34, 0x12], .decAbs 0x1234),
    ([0xD6, 0x34], .decZpX 0x34), ([0xDE, 0x34, 0x12], .decAbsX 0x1234), ([0xE8], .inx), ([0xC8], .iny),
    ([0xCA], .dex), ([0x88], .dey)] = true := by decide

/-- 30_encoding R83, R84: the words of every 43 form. -/
theorem test_decode_logic_shifts :
    decodesTo [
    ([0x21, 0x34], .andIndX 0x34), ([0x25, 0x34], .andZp 0x34), ([0x29, 0x34], .andImm 0x34),
    ([0x2D, 0x34, 0x12], .andAbs 0x1234), ([0x31, 0x34], .andIndY 0x34), ([0x35, 0x34], .andZpX 0x34),
    ([0x39, 0x34, 0x12], .andAbsY 0x1234), ([0x3D, 0x34, 0x12], .andAbsX 0x1234), ([0x01, 0x34], .oraIndX 0x34),
    ([0x05, 0x34], .oraZp 0x34), ([0x09, 0x34], .oraImm 0x34), ([0x0D, 0x34, 0x12], .oraAbs 0x1234),
    ([0x11, 0x34], .oraIndY 0x34), ([0x15, 0x34], .oraZpX 0x34), ([0x19, 0x34, 0x12], .oraAbsY 0x1234),
    ([0x1D, 0x34, 0x12], .oraAbsX 0x1234), ([0x41, 0x34], .eorIndX 0x34), ([0x45, 0x34], .eorZp 0x34),
    ([0x49, 0x34], .eorImm 0x34), ([0x4D, 0x34, 0x12], .eorAbs 0x1234), ([0x51, 0x34], .eorIndY 0x34),
    ([0x55, 0x34], .eorZpX 0x34), ([0x59, 0x34, 0x12], .eorAbsY 0x1234), ([0x5D, 0x34, 0x12], .eorAbsX 0x1234),
    ([0x24, 0x34], .bitZp 0x34), ([0x2C, 0x34, 0x12], .bitAbs 0x1234), ([0x06, 0x34], .aslZp 0x34),
    ([0x0A], .aslAcc), ([0x0E, 0x34, 0x12], .aslAbs 0x1234), ([0x16, 0x34], .aslZpX 0x34),
    ([0x1E, 0x34, 0x12], .aslAbsX 0x1234), ([0x46, 0x34], .lsrZp 0x34), ([0x4A], .lsrAcc),
    ([0x4E, 0x34, 0x12], .lsrAbs 0x1234), ([0x56, 0x34], .lsrZpX 0x34), ([0x5E, 0x34, 0x12], .lsrAbsX 0x1234),
    ([0x26, 0x34], .rolZp 0x34), ([0x2A], .rolAcc), ([0x2E, 0x34, 0x12], .rolAbs 0x1234),
    ([0x36, 0x34], .rolZpX 0x34), ([0x3E, 0x34, 0x12], .rolAbsX 0x1234), ([0x66, 0x34], .rorZp 0x34),
    ([0x6A], .rorAcc), ([0x6E, 0x34, 0x12], .rorAbs 0x1234), ([0x76, 0x34], .rorZpX 0x34),
    ([0x7E, 0x34, 0x12], .rorAbsX 0x1234)] = true := by decide

/-- 30_encoding R83, R84: the words of every 44 form. -/
theorem test_decode_control :
    decodesTo [
    ([0x4C, 0x34, 0x12], .jmpAbs 0x1234), ([0x6C, 0x34, 0x12], .jmpInd 0x1234), ([0x20, 0x34, 0x12], .jsr 0x1234),
    ([0x60], .rts), ([0x40], .rti), ([0x10, 0x34], .bpl 0x34), ([0x30, 0x34], .bmi 0x34), ([0x50, 0x34], .bvc 0x34),
    ([0x70, 0x34], .bvs 0x34), ([0x90, 0x34], .bcc 0x34), ([0xB0, 0x34], .bcs 0x34), ([0xD0, 0x34], .bne 0x34),
    ([0xF0, 0x34], .beq 0x34), ([0x00], .brk), ([0xEA], .nop)] = true := by decide

/-- 30_encoding R83, R84: the words of every 45 form. -/
theorem test_decode_stack_flags :
    decodesTo [
    ([0x48], .pha), ([0x08], .php), ([0x68], .pla), ([0x28], .plp), ([0x18], .clc), ([0x38], .sec), ([0x58], .cli),
    ([0x78], .sei), ([0xD8], .cld), ([0xF8], .sed), ([0xB8], .clv)] = true := by decide

/-- 30_encoding R85: an unassigned byte is rejected, and an instruction cut short is not decoded. -/
theorem test_decode_rejects :
    decode [0x02, 0x34, 0x12] = .rejected (.unassignedOpcode 0x02) ∧ decode [0xAD, 0x34] = .rejected .truncated ∧
      decodeTableWord 24 0x1234AD = some (.ldaAbs 0x1234) ∧ decodeTableWord 8 0xFF = none := by decide

/-! ## One step (spec/95_test_vectors) -/

/-- `s` with PC at `pc`, the program bytes there and the listed memory bytes. -/
def placed (pc : Addr) (bytes : List Byte) (cells : List (Addr × Byte)) (s : State) : State :=
  cells.foldl (fun s c => s.poke c.1 c.2) (State.loadBytes pc bytes { s with pc := pc })

/-- A, X, Y, S, the image of P, PC and the cycles. -/
def registers (s : State) : List Nat :=
  [s.a.toNat, s.x.toNat, s.y.toNat, s.sp.toNat, s.p.toByte.toNat, s.pc.toNat, s.cycles]

/-- The registers of a next state and its bytes at some addresses. -/
def result (o : Host.Outcome State Fault Refusal) (addrs : List Addr) : Option (List Nat × List Byte) :=
  match o with
  | .next s => some (registers s, addrs.map s.peek)
  | .fault _ | .refused _ => none

/-- The record of a fault and the registers it leaves. -/
def faultOf (o : Host.Outcome State Fault Refusal) : Option (FaultRecord × List Nat) :=
  match o with
  | .fault (.raised record left) => some (record, registers left)
  | .next _ | .refused _ => none

/-- The status of a next state. -/
def statusOf (o : Host.Outcome State Fault Refusal) : Option RunStatus :=
  match o with
  | .next s => some s.status
  | .fault _ | .refused _ => none

/-! ### Section 2.1 and E4 to E6: the modes, the page penalty, the zero page base -/

/-- 95_test_vectors E4. -/
theorem test_E4_lda :
    result (step (placed 0x0600 [0xB5, 0xFF] [(0x0001, 0x77)] { State.reset with x := 0x02 })) [] =
      some ([0x77, 0x02, 0x00, 0xFF, 0x20, 0x0602, 4], []) := by decide

/-- 95_test_vectors E5a. -/
theorem test_E5a_lda :
    result (step (placed 0x0600 [0xBD, 0xFF, 0x00] [(0x0100, 0x01)] { State.reset with x := 0x01 })) [] =
      some ([0x01, 0x01, 0x00, 0xFF, 0x20, 0x0603, 5], []) := by decide

/-- 95_test_vectors E5b. -/
theorem test_E5b_lda :
    result (step (placed 0x0600 [0xBD, 0x10, 0x00] [(0x0011, 0x02)] { State.reset with x := 0x01 })) [] =
      some ([0x02, 0x01, 0x00, 0xFF, 0x20, 0x0603, 4], []) := by decide

/-- 95_test_vectors E6. -/
theorem test_E6_jmp :
    result (step (placed 0x0600 [0x6C, 0xFF, 0x02] [(0x0200, 0x07), (0x02FF, 0x00), (0x0300, 0x08)] State.reset)) [] =
      some ([0x00, 0x00, 0x00, 0xFF, 0x20, 0x0700, 5], []) := by decide

/-- 95_test_vectors S1: zero_page. -/
theorem test_S1_lda :
    result (step (placed 0x0600 [0xA5, 0x10] [(0x0010, 0x42)] State.reset)) [] =
      some ([0x42, 0x00, 0x00, 0xFF, 0x20, 0x0602, 3], []) := by decide

/-- 95_test_vectors S2: LDX zp,Y wraps to 0x0010. -/
theorem test_S2_ldx :
    result (step (placed 0x0600 [0xB6, 0xF0] [(0x0010, 0x01)] { State.reset with y := 0x20 })) [] =
      some ([0x00, 0x01, 0x20, 0xFF, 0x20, 0x0602, 4], []) := by decide

/-- 95_test_vectors S3: absolute. -/
theorem test_S3_lda :
    result (step (placed 0x0600 [0xAD, 0x34, 0x12] [(0x1234, 0x80)] State.reset)) [] =
      some ([0x80, 0x00, 0x00, 0xFF, 0xA0, 0x0603, 4], []) := by decide

/-- 95_test_vectors S4: abs,Y wraps mod 65536 and counts as a crossing. -/
theorem test_S4_lda :
    result (step (placed 0x0600 [0xB9, 0xFF, 0xFF] [(0x0001, 0x03)] { State.reset with y := 0x02 })) [] =
      some ([0x03, 0x00, 0x02, 0xFF, 0x20, 0x0603, 5], []) := by decide

/-- 95_test_vectors S5: indirect_x. -/
theorem test_S5_lda :
    result (step (placed 0x0600 [0xA1, 0x20] [(0x0024, 0x00), (0x0025, 0x03), (0x0300, 0x99)] { State.reset with x := 0x04 })) [] =
      some ([0x99, 0x04, 0x00, 0xFF, 0xA0, 0x0602, 6], []) := by decide

/-- 95_test_vectors S6: indirect_x pointer high byte from 0x0000. -/
theorem test_S6_lda :
    result (step (placed 0x0600 [0xA1, 0xFE] [(0x0000, 0x03), (0x00FF, 0x00), (0x0300, 0x5A)] { State.reset with x := 0x01 })) [] =
      some ([0x5A, 0x01, 0x00, 0xFF, 0x20, 0x0602, 6], []) := by decide

/-- 95_test_vectors S8: indirect_y crossing 0x03F8 -> 0x0408, +1. -/
theorem test_S8_lda :
    result (step (placed 0x0600 [0xB1, 0x40] [(0x0040, 0xF8), (0x0041, 0x03), (0x0408, 0x22)] { State.reset with y := 0x10 })) [] =
      some ([0x22, 0x00, 0x10, 0xFF, 0x20, 0x0602, 6], []) := by decide

/-- 95_test_vectors S9: indirect_y pointer at 0xFF wraps. -/
theorem test_S9_lda :
    result (step (placed 0x0600 [0xB1, 0xFF] [(0x0000, 0x12), (0x00FF, 0x34), (0x1234, 0x33)] State.reset)) [] =
      some ([0x33, 0x00, 0x00, 0xFF, 0x20, 0x0602, 5], []) := by decide

/-- 95_test_vectors S10: STA abs,X crossing, all_indexed: cost 6. -/
theorem test_S10_sta :
    result (step (placed 0x0600 [0x9D, 0xFF, 0x00] [] { State.reset with a := 0x66, x := 0x01 })) [0x0100] =
      some ([0x66, 0x01, 0x00, 0xFF, 0x20, 0x0603, 6], [0x66]) := by decide

/-- 95_test_vectors S11: same under reads_only: cost 5. -/
theorem test_S11_sta :
    result (step (placed 0x0600 [0x9D, 0xFF, 0x00] [] { State.reset with a := 0x66, x := 0x01, cfg := { Config.default with pagePenalty := .readsOnly } })) [0x0100] =
      some ([0x66, 0x01, 0x00, 0xFF, 0x20, 0x0603, 5], [0x66]) := by decide

/-- 95_test_vectors S12: INC abs,X crossing, all_indexed: cost 8 (the maximum). -/
theorem test_S12_inc :
    result (step (placed 0x0600 [0xFE, 0xFF, 0x02] [(0x0300, 0x7F)] { State.reset with x := 0x01 })) [0x0300] =
      some ([0x00, 0x01, 0x00, 0xFF, 0xA0, 0x0603, 8], [0x80]) := by decide

/-- 95_test_vectors S13: same under reads_only: cost 7. -/
theorem test_S13_inc :
    result (step (placed 0x0600 [0xFE, 0xFF, 0x02] [(0x0300, 0x7F)] { State.reset with x := 0x01, cfg := { Config.default with pagePenalty := .readsOnly } })) [0x0300] =
      some ([0x00, 0x01, 0x00, 0xFF, 0xA0, 0x0603, 7], [0x80]) := by decide

/-- 95_test_vectors S14: P_ZP_BASE = 0x2000: zero page is 0x2000-0x20FF. -/
theorem test_S14_lda :
    result (step (placed 0x0600 [0xA5, 0x10] [(0x2010, 0x44)] { State.reset with cfg := { Config.default with zpBase := 0x2000 } })) [] =
      some ([0x44, 0x00, 0x00, 0xFF, 0x20, 0x0602, 3], []) := by decide

/-- 95_test_vectors S15: instruction at 0xFFFE: second operand byte from 0x0000, PC wraps. -/
theorem test_S15_lda :
    result (step (placed 0xFFFE [0xAD, 0x34, 0x12] [(0x1234, 0x01)] State.reset)) [] =
      some ([0x01, 0x00, 0x00, 0xFF, 0x20, 0x0001, 4], []) := by decide

/-! ### Section 2.2: ADC and SBC -/

/-- 95_test_vectors A7. -/
theorem test_A7_adc :
    result (step (placed 0x0600 [0x69, 0x90] [] { State.reset with a := 0xD0 })) [] =
      some ([0x60, 0x00, 0x00, 0xFF, 0x61, 0x0602, 2], []) := by decide

/-- 95_test_vectors A9. -/
theorem test_A9_adc :
    result (step (placed 0x0600 [0x69, 0x00] [] { State.reset with a := 0xFF, p := .ofByte 0x21 })) [] =
      some ([0x00, 0x00, 0x00, 0xFF, 0x23, 0x0602, 2], []) := by decide

/-- 95_test_vectors B2. -/
theorem test_B2_sbc :
    result (step (placed 0x0600 [0xE9, 0xB0] [] { State.reset with a := 0x50, p := .ofByte 0x21 })) [] =
      some ([0xA0, 0x00, 0x00, 0xFF, 0xE0, 0x0602, 2], []) := by decide

/-- 95_test_vectors B11. -/
theorem test_B11_sbc :
    result (step (placed 0x0600 [0xE9, 0x01] [] { State.reset with a := 0x80, p := .ofByte 0x21 })) [] =
      some ([0x7F, 0x00, 0x00, 0xFF, 0x61, 0x0602, 2], []) := by decide

/-- 95_test_vectors B15: SBC zp with D = 1: the operand read at 0x0010 happens, then the fault. -/
theorem test_B15_sbc :
    faultOf (step (placed 0x0600 [0xE5, 0x10] [(0x0010, 0x01)] { State.reset with a := 0x09, p := .ofByte 0x29 })) =
      some (.decimalModeUnsupported 0xE5 0x0600, [0x09, 0x00, 0x00, 0xFF, 0x29, 0x0602, 0]) := by decide

/-! ### Section 2.3: compare, increment, decrement -/

/-- 95_test_vectors K2: less: C=0, N from 0xF0. -/
theorem test_K2_cmp :
    result (step (placed 0x0600 [0xC9, 0x20] [] { State.reset with a := 0x10 })) [] =
      some ([0x10, 0x00, 0x00, 0xFF, 0xA0, 0x0602, 2], []) := by decide

/-- 95_test_vectors K6: carry-in is 1 whatever C was; V kept. -/
theorem test_K6_cmp :
    result (step (placed 0x0600 [0xC9, 0x10] [] { State.reset with a := 0x10, p := .ofByte 0x60 })) [] =
      some ([0x10, 0x00, 0x00, 0xFF, 0x63, 0x0602, 2], []) := by decide

/-- 95_test_vectors K7: CPX #. -/
theorem test_K7_cpx :
    result (step (placed 0x0600 [0xE0, 0x05] [] { State.reset with x := 0x05 })) [] =
      some ([0x00, 0x05, 0x00, 0xFF, 0x23, 0x0602, 2], []) := by decide

/-- 95_test_vectors K8: CPY #. -/
theorem test_K8_cpy :
    result (step (placed 0x0600 [0xC0, 0x06] [] { State.reset with y := 0x05 })) [] =
      some ([0x00, 0x00, 0x05, 0xFF, 0xA0, 0x0602, 2], []) := by decide

/-- 95_test_vectors K9: INC zp wraps 0xFF -> 0x00, C unchanged. -/
theorem test_K9_inc :
    result (step (placed 0x0600 [0xE6, 0x10] [(0x0010, 0xFF)] State.reset)) [0x0010] =
      some ([0x00, 0x00, 0x00, 0xFF, 0x22, 0x0602, 5], [0x00]) := by decide

/-- 95_test_vectors K10: DEC zp wraps 0x00 -> 0xFF. -/
theorem test_K10_dec :
    result (step (placed 0x0600 [0xC6, 0x10] [(0x0010, 0x00)] { State.reset with p := .ofByte 0x21 })) [0x0010] =
      some ([0x00, 0x00, 0x00, 0xFF, 0xA1, 0x0602, 5], [0xFF]) := by decide

/-- 95_test_vectors K11: INX wraps. -/
theorem test_K11_inx :
    result (step (placed 0x0600 [0xE8] [] { State.reset with x := 0xFF })) [] =
      some ([0x00, 0x00, 0x00, 0xFF, 0x22, 0x0601, 2], []) := by decide

/-- 95_test_vectors K12: INY to 0x80. -/
theorem test_K12_iny :
    result (step (placed 0x0600 [0xC8] [] { State.reset with y := 0x7F })) [] =
      some ([0x00, 0x00, 0x80, 0xFF, 0xA0, 0x0601, 2], []) := by decide

/-- 95_test_vectors K13: DEX to 0. -/
theorem test_K13_dex :
    result (step (placed 0x0600 [0xCA] [] { State.reset with x := 0x01 })) [] =
      some ([0x00, 0x00, 0x00, 0xFF, 0x22, 0x0601, 2], []) := by decide

/-- 95_test_vectors K14: DEY wraps. -/
theorem test_K14_dey :
    result (step (placed 0x0600 [0x88] [] State.reset)) [] =
      some ([0x00, 0x00, 0xFF, 0xFF, 0xA0, 0x0601, 2], []) := by decide

/-- 95_test_vectors K15: INC zp,X wraps to 0x0001. -/
theorem test_K15_inc :
    result (step (placed 0x0600 [0xF6, 0xFF] [(0x0001, 0x41)] { State.reset with x := 0x02 })) [0x0001] =
      some ([0x00, 0x02, 0x00, 0xFF, 0x20, 0x0602, 6], [0x42]) := by decide

/-! ### Section 2.4: logic, BIT, shifts -/

/-- 95_test_vectors L1: AND to zero. -/
theorem test_L1_and :
    result (step (placed 0x0600 [0x29, 0x0F] [] { State.reset with a := 0xF0 })) [] =
      some ([0x00, 0x00, 0x00, 0xFF, 0x22, 0x0602, 2], []) := by decide

/-- 95_test_vectors L2: ORA sets N. -/
theorem test_L2_ora :
    result (step (placed 0x0600 [0x09, 0x80] [] { State.reset with a := 0x01 })) [] =
      some ([0x81, 0x00, 0x00, 0xFF, 0xA0, 0x0602, 2], []) := by decide

/-- 95_test_vectors L3: EOR self = 0. -/
theorem test_L3_eor :
    result (step (placed 0x0600 [0x49, 0xFF] [] { State.reset with a := 0xFF })) [] =
      some ([0x00, 0x00, 0x00, 0xFF, 0x22, 0x0602, 2], []) := by decide

/-- 95_test_vectors L4: BIT: Z from A AND m = 0; N, V from m. -/
theorem test_L4_bit :
    result (step (placed 0x0600 [0x24, 0x10] [(0x0010, 0xC0)] { State.reset with a := 0x01 })) [] =
      some ([0x01, 0x00, 0x00, 0xFF, 0xE2, 0x0602, 3], []) := by decide

/-- 95_test_vectors L5: BIT abs clears N and V from m. -/
theorem test_L5_bit :
    result (step (placed 0x0600 [0x2C, 0x34, 0x12] [(0x1234, 0x3F)] { State.reset with a := 0xFF, p := .ofByte 0xE0 })) [] =
      some ([0xFF, 0x00, 0x00, 0xFF, 0x20, 0x0603, 4], []) := by decide

/-- 95_test_vectors L6: ASL A: 0x80 -> 0x00, C=1. -/
theorem test_L6_asl :
    result (step (placed 0x0600 [0x0A] [] { State.reset with a := 0x80 })) [] =
      some ([0x00, 0x00, 0x00, 0xFF, 0x23, 0x0601, 2], []) := by decide

/-- 95_test_vectors L7: ASL zp: read 0x41, write 0x82. -/
theorem test_L7_asl :
    result (step (placed 0x0600 [0x06, 0x10] [(0x0010, 0x41)] State.reset)) [0x0010] =
      some ([0x00, 0x00, 0x00, 0xFF, 0xA0, 0x0602, 5], [0x82]) := by decide

/-- 95_test_vectors L8: LSR A: 0x01 -> 0x00, C=1. -/
theorem test_L8_lsr :
    result (step (placed 0x0600 [0x4A] [] { State.reset with a := 0x01 })) [] =
      some ([0x00, 0x00, 0x00, 0xFF, 0x23, 0x0601, 2], []) := by decide

/-- 95_test_vectors L9: LSR clears N. -/
theorem test_L9_lsr :
    result (step (placed 0x0600 [0x46, 0x10] [(0x0010, 0xFF)] { State.reset with p := .ofByte 0xA0 })) [0x0010] =
      some ([0x00, 0x00, 0x00, 0xFF, 0x21, 0x0602, 5], [0x7F]) := by decide

/-- 95_test_vectors L10: ROL A with C=1. -/
theorem test_L10_rol :
    result (step (placed 0x0600 [0x2A] [] { State.reset with a := 0x80, p := .ofByte 0x21 })) [] =
      some ([0x01, 0x00, 0x00, 0xFF, 0x21, 0x0601, 2], []) := by decide

/-- 95_test_vectors L11: ROL A with C=0. -/
theorem test_L11_rol :
    result (step (placed 0x0600 [0x2A] [] { State.reset with a := 0x40 })) [] =
      some ([0x80, 0x00, 0x00, 0xFF, 0xA0, 0x0601, 2], []) := by decide

/-- 95_test_vectors L12: ROR A with C=1. -/
theorem test_L12_ror :
    result (step (placed 0x0600 [0x6A] [] { State.reset with a := 0x01, p := .ofByte 0x21 })) [] =
      some ([0x80, 0x00, 0x00, 0xFF, 0xA1, 0x0601, 2], []) := by decide

/-- 95_test_vectors L13: ROR A with C=0. -/
theorem test_L13_ror :
    result (step (placed 0x0600 [0x6A] [] { State.reset with a := 0x02 })) [] =
      some ([0x01, 0x00, 0x00, 0xFF, 0x20, 0x0601, 2], []) := by decide

/-- 95_test_vectors L14: ROR abs,X crossing: cost 8 under all_indexed. -/
theorem test_L14_ror :
    result (step (placed 0x0600 [0x7E, 0xFF, 0x00] [(0x0100, 0x00)] { State.reset with x := 0x01, p := .ofByte 0x21 })) [0x0100] =
      some ([0x00, 0x01, 0x00, 0xFF, 0xA0, 0x0603, 8], [0x80]) := by decide

/-! ### Section 2.5: loads, stores, transfers -/

/-- 95_test_vectors T1: LDA # zero. -/
theorem test_T1_lda :
    result (step (placed 0x0600 [0xA9, 0x00] [] { State.reset with a := 0x55, p := .ofByte 0xA0 })) [] =
      some ([0x00, 0x00, 0x00, 0xFF, 0x22, 0x0602, 2], []) := by decide

/-- 95_test_vectors T2: LDA # negative. -/
theorem test_T2_lda :
    result (step (placed 0x0600 [0xA9, 0x80] [] State.reset)) [] =
      some ([0x80, 0x00, 0x00, 0xFF, 0xA0, 0x0602, 2], []) := by decide

/-- 95_test_vectors T3: LDX #. -/
theorem test_T3_ldx :
    result (step (placed 0x0600 [0xA2, 0x7F] [] State.reset)) [] =
      some ([0x00, 0x7F, 0x00, 0xFF, 0x20, 0x0602, 2], []) := by decide

/-- 95_test_vectors T4: LDY abs. -/
theorem test_T4_ldy :
    result (step (placed 0x0600 [0xAC, 0x00, 0x02] [(0x0200, 0xFE)] State.reset)) [] =
      some ([0x00, 0x00, 0xFE, 0xFF, 0xA0, 0x0603, 4], []) := by decide

/-- 95_test_vectors T5: STA writes no flag (N stays 1, Z stays 0). -/
theorem test_T5_sta :
    result (step (placed 0x0600 [0x85, 0x10] [] { State.reset with p := .ofByte 0xA0 })) [0x0010] =
      some ([0x00, 0x00, 0x00, 0xFF, 0xA0, 0x0602, 3], [0x00]) := by decide

/-- 95_test_vectors T6: STX zp,Y wraps to 0x0001. -/
theorem test_T6_stx :
    result (step (placed 0x0600 [0x96, 0xFF] [] { State.reset with x := 0xAB, y := 0x02 })) [0x0001] =
      some ([0x00, 0xAB, 0x02, 0xFF, 0x20, 0x0602, 4], [0xAB]) := by decide

/-- 95_test_vectors T7: STY abs. -/
theorem test_T7_sty :
    result (step (placed 0x0600 [0x8C, 0x00, 0x03] [] { State.reset with y := 0x12 })) [0x0300] =
      some ([0x00, 0x00, 0x12, 0xFF, 0x20, 0x0603, 4], [0x12]) := by decide

/-- 95_test_vectors T8: TAX. -/
theorem test_T8_tax :
    result (step (placed 0x0600 [0xAA] [] { State.reset with a := 0x80 })) [] =
      some ([0x80, 0x80, 0x00, 0xFF, 0xA0, 0x0601, 2], []) := by decide

/-- 95_test_vectors T9: TAY. -/
theorem test_T9_tay :
    result (step (placed 0x0600 [0xA8] [] State.reset)) [] =
      some ([0x00, 0x00, 0x00, 0xFF, 0x22, 0x0601, 2], []) := by decide

/-- 95_test_vectors T10: TXA. -/
theorem test_T10_txa :
    result (step (placed 0x0600 [0x8A] [] { State.reset with a := 0xFF, x := 0x01 })) [] =
      some ([0x01, 0x01, 0x00, 0xFF, 0x20, 0x0601, 2], []) := by decide

/-- 95_test_vectors T11: TYA. -/
theorem test_T11_tya :
    result (step (placed 0x0600 [0x98] [] { State.reset with y := 0x90 })) [] =
      some ([0x90, 0x00, 0x90, 0xFF, 0xA0, 0x0601, 2], []) := by decide

/-- 95_test_vectors T12: TSX sets Z when S = 0. -/
theorem test_T12_tsx :
    result (step (placed 0x0600 [0xBA] [] { State.reset with sp := 0x00 })) [] =
      some ([0x00, 0x00, 0x00, 0x00, 0x22, 0x0601, 2], []) := by decide

/-- 95_test_vectors T13: TXS writes no flag. -/
theorem test_T13_txs :
    result (step (placed 0x0600 [0x9A] [] { State.reset with x := 0x80, p := .ofByte 0x22 })) [] =
      some ([0x00, 0x80, 0x00, 0x80, 0x22, 0x0601, 2], []) := by decide

/-! ### Section 2.6: control transfer -/

/-- 95_test_vectors J1: JMP abs. -/
theorem test_J1_jmp :
    result (step (placed 0x0600 [0x4C, 0x00, 0x80] [] State.reset)) [] =
      some ([0x00, 0x00, 0x00, 0xFF, 0x20, 0x8000, 3], []) := by decide

/-- 95_test_vectors J2: JMP (abs), no wrap. -/
theorem test_J2_jmp :
    result (step (placed 0x0600 [0x6C, 0x00, 0x03] [(0x0300, 0x34), (0x0301, 0x12)] State.reset)) [] =
      some ([0x00, 0x00, 0x00, 0xFF, 0x20, 0x1234, 5], []) := by decide

/-- 95_test_vectors J3: JSR pushes a0+2 = 0x0602, high byte first. -/
theorem test_J3_jsr :
    result (step (placed 0x0600 [0x20, 0x34, 0x12] [] State.reset)) [0x01FF, 0x01FE] =
      some ([0x00, 0x00, 0x00, 0xFD, 0x20, 0x1234, 6], [0x06, 0x02]) := by decide

/-- 95_test_vectors J4: RTS pulls 0x0602 and adds 1. -/
theorem test_J4_rts :
    result (step (placed 0x0600 [0x60] [(0x01FE, 0x02), (0x01FF, 0x06)] { State.reset with sp := 0xFD })) [] =
      some ([0x00, 0x00, 0x00, 0xFF, 0x20, 0x0603, 6], []) := by decide

/-- 95_test_vectors J5: RTI: P from 0xFF gives Pbyte 0xEF (bit 4 ignored); no +1. -/
theorem test_J5_rti :
    result (step (placed 0x0600 [0x40] [(0x01FD, 0xFF), (0x01FE, 0x34), (0x01FF, 0x12)] { State.reset with sp := 0xFC })) [] =
      some ([0x00, 0x00, 0x00, 0xFF, 0xEF, 0x1234, 6], []) := by decide

/-- 95_test_vectors J6: RTS with S=0xFF wraps: pulls 0x0100, 0x0101; PC = 0xFFFF + 1 = 0x0000. -/
theorem test_J6_rts :
    result (step (placed 0x0600 [0x60] [(0x0100, 0xFF), (0x0101, 0xFF)] State.reset)) [] =
      some ([0x00, 0x00, 0x00, 0x01, 0x20, 0x0000, 6], []) := by decide

/-- 95_test_vectors J7: BPL taken (N=0): 0x0602 + 0x10. -/
theorem test_J7_bpl :
    result (step (placed 0x0600 [0x10, 0x10] [] State.reset)) [] =
      some ([0x00, 0x00, 0x00, 0xFF, 0x20, 0x0612, 3], []) := by decide

/-- 95_test_vectors J8: BPL not taken. -/
theorem test_J8_bpl :
    result (step (placed 0x0600 [0x10, 0x10] [] { State.reset with p := .ofByte 0xA0 })) [] =
      some ([0x00, 0x00, 0x00, 0xFF, 0xA0, 0x0602, 2], []) := by decide

/-- 95_test_vectors J9: BMI taken (N=1): 0x0602 + 0x10. -/
theorem test_J9_bmi :
    result (step (placed 0x0600 [0x30, 0x10] [] { State.reset with p := .ofByte 0xA0 })) [] =
      some ([0x00, 0x00, 0x00, 0xFF, 0xA0, 0x0612, 3], []) := by decide

/-- 95_test_vectors J10: BMI not taken. -/
theorem test_J10_bmi :
    result (step (placed 0x0600 [0x30, 0x10] [] State.reset)) [] =
      some ([0x00, 0x00, 0x00, 0xFF, 0x20, 0x0602, 2], []) := by decide

/-- 95_test_vectors J11: BVC taken (V=0): 0x0602 + 0x10. -/
theorem test_J11_bvc :
    result (step (placed 0x0600 [0x50, 0x10] [] State.reset)) [] =
      some ([0x00, 0x00, 0x00, 0xFF, 0x20, 0x0612, 3], []) := by decide

/-- 95_test_vectors J12: BVC not taken. -/
theorem test_J12_bvc :
    result (step (placed 0x0600 [0x50, 0x10] [] { State.reset with p := .ofByte 0x60 })) [] =
      some ([0x00, 0x00, 0x00, 0xFF, 0x60, 0x0602, 2], []) := by decide

/-- 95_test_vectors J13: BVS taken (V=1): 0x0602 + 0x10. -/
theorem test_J13_bvs :
    result (step (placed 0x0600 [0x70, 0x10] [] { State.reset with p := .ofByte 0x60 })) [] =
      some ([0x00, 0x00, 0x00, 0xFF, 0x60, 0x0612, 3], []) := by decide

/-- 95_test_vectors J14: BVS not taken. -/
theorem test_J14_bvs :
    result (step (placed 0x0600 [0x70, 0x10] [] State.reset)) [] =
      some ([0x00, 0x00, 0x00, 0xFF, 0x20, 0x0602, 2], []) := by decide

/-- 95_test_vectors J15: BCC taken (C=0): 0x0602 + 0x10. -/
theorem test_J15_bcc :
    result (step (placed 0x0600 [0x90, 0x10] [] State.reset)) [] =
      some ([0x00, 0x00, 0x00, 0xFF, 0x20, 0x0612, 3], []) := by decide

/-- 95_test_vectors J16: BCC not taken. -/
theorem test_J16_bcc :
    result (step (placed 0x0600 [0x90, 0x10] [] { State.reset with p := .ofByte 0x21 })) [] =
      some ([0x00, 0x00, 0x00, 0xFF, 0x21, 0x0602, 2], []) := by decide

/-- 95_test_vectors J17: BCS taken (C=1): 0x0602 + 0x10. -/
theorem test_J17_bcs :
    result (step (placed 0x0600 [0xB0, 0x10] [] { State.reset with p := .ofByte 0x21 })) [] =
      some ([0x00, 0x00, 0x00, 0xFF, 0x21, 0x0612, 3], []) := by decide

/-- 95_test_vectors J18: BCS not taken. -/
theorem test_J18_bcs :
    result (step (placed 0x0600 [0xB0, 0x10] [] State.reset)) [] =
      some ([0x00, 0x00, 0x00, 0xFF, 0x20, 0x0602, 2], []) := by decide

/-- 95_test_vectors J20: BNE not taken. -/
theorem test_J20_bne :
    result (step (placed 0x0600 [0xD0, 0x10] [] { State.reset with p := .ofByte 0x22 })) [] =
      some ([0x00, 0x00, 0x00, 0xFF, 0x22, 0x0602, 2], []) := by decide

/-- 95_test_vectors J22: BEQ not taken. -/
theorem test_J22_beq :
    result (step (placed 0x0600 [0xF0, 0x10] [] State.reset)) [] =
      some ([0x00, 0x00, 0x00, 0xFF, 0x20, 0x0602, 2], []) := by decide

/-- 95_test_vectors J23: BNE back -128 to 0x0582: other page, cost 4. -/
theorem test_J23_bne :
    result (step (placed 0x0600 [0xD0, 0x80] [] State.reset)) [] =
      some ([0x00, 0x00, 0x00, 0xFF, 0x20, 0x0582, 4], []) := by decide

/-- 95_test_vectors J24: BEQ -2: branches to itself, cost 3. -/
theorem test_J24_beq :
    result (step (placed 0x0600 [0xF0, 0xFE] [] { State.reset with p := .ofByte 0x22 })) [] =
      some ([0x00, 0x00, 0x00, 0xFF, 0x22, 0x0600, 3], []) := by decide

/-- 95_test_vectors J26: BRK, signal_stop (default). -/
theorem test_J26_brk :
    result (step (placed 0x0608 [0x00] [] State.reset)) [] =
      some ([0x00, 0x00, 0x00, 0xFF, 0x20, 0x060A, 7], []) := by decide

/-- 95_test_vectors J27: BRK, vector: pushes 06, 02, Pbyte|0x10 = 0x31; I=1. -/
theorem test_J27_brk :
    result (step (placed 0x0600 [0x00] [(0xFFFE, 0x00), (0xFFFF, 0x80)] { State.reset with p := .ofByte 0x21, cfg := { Config.default with brkMode := .vector } })) [0x01FF, 0x01FE, 0x01FD] =
      some ([0x00, 0x00, 0x00, 0xFC, 0x25, 0x8000, 7], [0x06, 0x02, 0x31]) := by decide

/-- 95_test_vectors J28: NOP. -/
theorem test_J28_nop :
    result (step (placed 0x0600 [0xEA] [] { State.reset with a := 0x12, p := .ofByte 0x21 })) [] =
      some ([0x12, 0x00, 0x00, 0xFF, 0x21, 0x0601, 2], []) := by decide

/-! ### Section 2.7: stack and flags -/

/-- 95_test_vectors H1: PHA. -/
theorem test_H1_pha :
    result (step (placed 0x0600 [0x48] [] { State.reset with a := 0x42 })) [0x01FF] =
      some ([0x42, 0x00, 0x00, 0xFE, 0x20, 0x0601, 3], [0x42]) := by decide

/-- 95_test_vectors H2: PHA with S=0 writes 0x0100, S wraps to 0xFF. -/
theorem test_H2_pha :
    result (step (placed 0x0600 [0x48] [] { State.reset with a := 0x42, sp := 0x00 })) [0x0100] =
      some ([0x42, 0x00, 0x00, 0xFF, 0x20, 0x0601, 3], [0x42]) := by decide

/-- 95_test_vectors H3: PHP pushes Pbyte|0x10 = 0x33. -/
theorem test_H3_php :
    result (step (placed 0x0600 [0x08] [] { State.reset with p := .ofByte 0x23 })) [0x01FF] =
      some ([0x00, 0x00, 0x00, 0xFE, 0x23, 0x0601, 3], [0x33]) := by decide

/-- 95_test_vectors H4: PHP right after reset pushes 0x30. -/
theorem test_H4_php :
    result (step (placed 0x0600 [0x08] [] State.reset)) [0x01FF] =
      some ([0x00, 0x00, 0x00, 0xFE, 0x20, 0x0601, 3], [0x30]) := by decide

/-- 95_test_vectors H5: PLA zero. -/
theorem test_H5_pla :
    result (step (placed 0x0600 [0x68] [(0x01FF, 0x00)] { State.reset with sp := 0xFE })) [] =
      some ([0x00, 0x00, 0x00, 0xFF, 0x22, 0x0601, 4], []) := by decide

/-- 95_test_vectors H6: PLA with S=0xFF wraps to 0x0100. -/
theorem test_H6_pla :
    result (step (placed 0x0600 [0x68] [(0x0100, 0x80)] State.reset)) [] =
      some ([0x80, 0x00, 0x00, 0x00, 0xA0, 0x0601, 4], []) := by decide

/-- 95_test_vectors H7: PLP 0xFF gives Pbyte 0xEF. -/
theorem test_H7_plp :
    result (step (placed 0x0600 [0x28] [(0x01FF, 0xFF)] { State.reset with sp := 0xFE })) [] =
      some ([0x00, 0x00, 0x00, 0xFF, 0xEF, 0x0601, 4], []) := by decide

/-- 95_test_vectors H8: PLP 0x00 gives Pbyte 0x20. -/
theorem test_H8_plp :
    result (step (placed 0x0600 [0x28] [(0x01FF, 0x00)] { State.reset with sp := 0xFE, p := .ofByte 0x21 })) [] =
      some ([0x00, 0x00, 0x00, 0xFF, 0x20, 0x0601, 4], []) := by decide

/-- 95_test_vectors H9: CLC. -/
theorem test_H9_clc :
    result (step (placed 0x0600 [0x18] [] { State.reset with p := .ofByte 0x21 })) [] =
      some ([0x00, 0x00, 0x00, 0xFF, 0x20, 0x0601, 2], []) := by decide

/-- 95_test_vectors H10: SEC. -/
theorem test_H10_sec :
    result (step (placed 0x0600 [0x38] [] State.reset)) [] =
      some ([0x00, 0x00, 0x00, 0xFF, 0x21, 0x0601, 2], []) := by decide

/-- 95_test_vectors H11: CLI. -/
theorem test_H11_cli :
    result (step (placed 0x0600 [0x58] [] { State.reset with p := .ofByte 0x24 })) [] =
      some ([0x00, 0x00, 0x00, 0xFF, 0x20, 0x0601, 2], []) := by decide

/-- 95_test_vectors H12: SEI. -/
theorem test_H12_sei :
    result (step (placed 0x0600 [0x78] [] State.reset)) [] =
      some ([0x00, 0x00, 0x00, 0xFF, 0x24, 0x0601, 2], []) := by decide

/-- 95_test_vectors H13: CLD. -/
theorem test_H13_cld :
    result (step (placed 0x0600 [0xD8] [] { State.reset with p := .ofByte 0x28 })) [] =
      some ([0x00, 0x00, 0x00, 0xFF, 0x20, 0x0601, 2], []) := by decide

/-- 95_test_vectors H14: SED. -/
theorem test_H14_sed :
    result (step (placed 0x0600 [0xF8] [] State.reset)) [] =
      some ([0x00, 0x00, 0x00, 0xFF, 0x28, 0x0601, 2], []) := by decide

/-- 95_test_vectors H15: CLV. -/
theorem test_H15_clv :
    result (step (placed 0x0600 [0xB8] [] { State.reset with p := .ofByte 0x60 })) [] =
      some ([0x00, 0x00, 0x00, 0xFF, 0x20, 0x0601, 2], []) := by decide

/-! ### Section 2.8: faults -/

/-- 95_test_vectors F1: unassigned opcode; PC = a0+1 = 0x0601. -/
theorem test_F1_unassigned :
    faultOf (step (placed 0x0600 [0x02] [] State.reset)) =
      some (.unknownOpcode 0x02 0x0600, [0x00, 0x00, 0x00, 0xFF, 0x20, 0x0601, 0]) := by decide

/-- 95_test_vectors F2: unassigned 0xFF. -/
theorem test_F2_unassigned :
    faultOf (step (placed 0x1234 [0xFF] [] State.reset)) =
      some (.unknownOpcode 0xFF 0x1234, [0x00, 0x00, 0x00, 0xFF, 0x20, 0x1235, 0]) := by decide

/-- 95_test_vectors F3: P_RESERVED_LIMIT = 0x0200: STA $10 faults; RAM unchanged. -/
theorem test_F3_sta :
    faultOf (step (placed 0x0600 [0x85, 0x10] [] { State.reset with a := 0x01, cfg := { Config.default with reservedLimit := 0x0200 } })) =
      some (.invalidAddress 0x0010 .write, [0x01, 0x00, 0x00, 0xFF, 0x20, 0x0602, 0]) := by decide

/-! ### Section 2.8: peripherals. Device 1's answers are free values, so the answer a vector names is a premise; PC is past
the instruction. -/

/-- A machine with device 1 at the range. -/
def withDevice (first last : Addr) (pc : Addr) : State :=
  { State.reset with pc := pc, cfg := { Config.default with peripherals := [⟨first, last, 1⟩] } }

/-- A read the device fails, as R54 and R302 say. -/
theorem failed_read {s : State} {a : Addr} {p : Peripheral} (hr : ¬ a < s.cfg.reservedLimit)
    (hp : s.peripheralAt a = some p) (h : Config.readAnswer p.device (s.deviceHistory p.device) a = none) :
    memRead a s = .failed ((s.logAccess ⟨p.device, a, .read⟩).raise (.peripheralReadError a)) := by
  simp only [memRead, hr, hp, h, if_false]

/-- A read the device answers. -/
theorem answered_read {s : State} {a : Addr} {p : Peripheral} {b : Byte} (hr : ¬ a < s.cfg.reservedLimit)
    (hp : s.peripheralAt a = some p) (h : Config.readAnswer p.device (s.deviceHistory p.device) a = some b) :
    memRead a s = .done b (s.logAccess ⟨p.device, a, .read⟩) := by
  simp only [memRead, hr, hp, h, if_false]

/-- A write the device fails, as R54 and R303 say. -/
theorem failed_write {s : State} {a : Addr} {v : Byte} {p : Peripheral} (hr : ¬ a < s.cfg.reservedLimit)
    (hp : s.peripheralAt a = some p) (h : Config.writeAnswer p.device (s.deviceHistory p.device) a v = false) :
    memWrite a v s = .failed ((s.logAccess ⟨p.device, a, .write v⟩).raise (.peripheralWriteError a v)) := by
  simp only [memWrite, hr, hp, h, if_false, Bool.false_eq_true]

/-- A write the device accepts. -/
theorem accepted_write {s : State} {a : Addr} {v : Byte} {p : Peripheral} (hr : ¬ a < s.cfg.reservedLimit)
    (hp : s.peripheralAt a = some p) (h : Config.writeAnswer p.device (s.deviceHistory p.device) a v = true) :
    memWrite a v s = .done () (s.logAccess ⟨p.device, a, .write v⟩) := by
  simp only [memWrite, hr, hp, h, if_false, if_true]

/-- 95_test_vectors F4. -/
theorem test_F4_lda (h : Config.readAnswer 1 [] 0xD000 = none) :
    ∃ left, exec (.ldaAbs 0xD000) (withDevice 0xD000 0xD0FF 0x0603) = .fault (.raised (.peripheralReadError 0xD000) left) ∧
      left.a = 0x00 ∧ left.pc = 0x0603 ∧ left.cycles = 0 := by
  have hm := failed_read (s := withDevice 0xD000 0xD0FF 0x0603) (a := 0xD000) (p := ⟨0xD000, 0xD0FF, 1⟩)
    (by decide) (by decide) h
  refine ⟨_, execute_eq_fault.mpr (.inr ⟨⟨some 0xD000, false⟩, _, rfl,
    Run.andThen_eq_failed.mpr (.inl hm)⟩), rfl, rfl, rfl⟩

/-- 95_test_vectors F5. -/
theorem test_F5_sta (h : Config.writeAnswer 1 [] 0xD000 0x07 = false) :
    ∃ left, exec (.staAbs 0xD000) ((withDevice 0xD000 0xD0FF 0x0603).setA 0x07) =
        .fault (.raised (.peripheralWriteError 0xD000 0x07) left) ∧ left.pc = 0x0603 ∧ left.ram = [] := by
  have hm := failed_write (s := (withDevice 0xD000 0xD0FF 0x0603).setA 0x07) (a := 0xD000) (p := ⟨0xD000, 0xD0FF, 1⟩)
    (by decide) (by decide) h
  exact ⟨_, execute_eq_fault.mpr (.inr ⟨⟨some 0xD000, false⟩, _, rfl,
    Run.andThen_eq_failed.mpr (.inl hm)⟩), rfl, rfl⟩

/-- 95_test_vectors F6: the device answers, RAM below it is not used, and the access is logged. -/
theorem test_F6_lda (h : Config.readAnswer 1 [] 0xD010 = some 0x5A) :
    ∃ t, exec (.ldaAbs 0xD010) ((withDevice 0xD000 0xD0FF 0x0603).poke 0xD010 0x11) = .next t ∧
      t.a = 0x5A ∧ t.p.toByte = 0x20 ∧ t.pc = 0x0603 ∧ t.cycles = 4 ∧ t.periphLog = [⟨1, 0xD010, .read⟩] := by
  have hm := answered_read (s := (withDevice 0xD000 0xD0FF 0x0603).poke 0xD010 0x11) (a := 0xD010)
    (p := ⟨0xD000, 0xD0FF, 1⟩) (by decide) (by decide) h
  exact ⟨_, execute_eq_next.mpr ⟨⟨some 0xD010, false⟩, _, 0, _, rfl,
    readThen_done.mpr ⟨0x5A, _, hm, rfl, rfl⟩, rfl⟩, rfl, by decide, rfl, rfl, rfl⟩

/-- 95_test_vectors F7: the first push is done, the second faults, S is decremented once. -/
theorem test_F7_jsr (h : Config.writeAnswer 1 [] 0x01FE 0x02 = false) :
    ∃ left, exec (.jsr 0x8000) (withDevice 0x01FE 0x01FE 0x0603) = .fault (.raised (.peripheralWriteError 0x01FE 0x02) left) ∧
      left.sp = 0xFE ∧ left.pc = 0x0603 ∧ left.peek 0x01FF = 0x06 := by
  have hm := failed_write (s := ((withDevice 0x01FE 0x01FE 0x0603).poke 0x01FF 0x06).setSp 0xFE) (a := 0x01FE)
    (v := 0x02) (p := ⟨0x01FE, 0x01FE, 1⟩) (by decide) (by decide) h
  have hp : pushPair 0x0602 (withDevice 0x01FE 0x01FE 0x0603) = .failed _ :=
    Run.andThen_eq_failed.mpr (.inr ⟨(), ((withDevice 0x01FE 0x01FE 0x0603).poke 0x01FF 0x06).setSp 0xFE, by decide,
      Run.andThen_eq_failed.mpr (.inl hm)⟩)
  exact ⟨_, execute_eq_fault.mpr (.inr ⟨⟨some 0x8000, false⟩, _, rfl,
    Run.andThen_eq_failed.mpr (.inl hp)⟩), rfl, rfl, by decide⟩

/-! ### Section 2.9: reset and run control -/

/-- 95_test_vectors Z1, Z2: reset from any state; S takes the low byte. -/
theorem test_Z1_Z2_reset :
    registers ({ State.reset with a := 1, x := 2, y := 3, p := .ofByte 0xFF, cycles := 9, steps := 9 }.resetWith 0x0600 0xFF) =
      [0, 0, 0, 0xFF, 0x20, 0x0600, 0] ∧
    registers (State.reset.resetWith 0xC000 0x01FF) = [0, 0, 0, 0xFF, 0x20, 0xC000, 0] := by decide

/-- `EA EA EA` at 0x0600 under a configuration, with PC, cycles and steps. -/
def nops (endAddr : Option Addr) (budget : Option Nat) (pc : Addr) (cycles steps : Nat) : State :=
  { placed 0x0600 [0xEA, 0xEA, 0xEA] [] State.reset with
    pc := pc, cycles := cycles, steps := steps,
    cfg := { Config.default with endAddr := endAddr, stepBudget := budget } }

/-- 95_test_vectors Z3: the NOP at the end address does not run. -/
theorem test_Z3_end_address :
    statusOf (step (nops (some 0x0602) none 0x0602 4 2)) = some (.stopped .endAddress) ∧
    result (step (nops (some 0x0602) none 0x0602 4 2)) [] = some ([0, 0, 0, 0xFF, 0x20, 0x0602, 4], []) ∧
    result (step (nops (some 0x0602) none 0x0601 2 1)) [] = some ([0, 0, 0, 0xFF, 0x20, 0x0602, 4], []) := by decide

/-- 95_test_vectors Z4: a budget of 0 runs nothing. -/
theorem test_Z4_budget : statusOf (step (nops none (some 0) 0x0600 0 0)) = some (.stopped .stepBudget) := by decide

/-- 95_test_vectors Z5: the end address is checked first. -/
theorem test_Z5_order : statusOf (step (nops (some 0x0600) (some 0) 0x0600 0 0)) = some (.stopped .endAddress) := by decide

/-- 95_test_vectors Z6: a faulted machine stays faulted. -/
theorem test_Z6_faulted :
    faultOf (step { State.reset with pc := 0x0601, status := .faulted (.unknownOpcode 0x02 0x0600) }) =
      some (.unknownOpcode 0x02 0x0600, [0, 0, 0, 0xFF, 0x20, 0x0601, 0]) := by decide

/-- 95_test_vectors Z7: no step before the first reset. -/
theorem test_Z7_not_reset : step (State.powerOn Config.default []) = .refused .notReset := rfl

/-- 95_test_vectors J26: BRK in `signal_stop` mode stops the run. -/
theorem test_J26_status : statusOf (step (placed 0x0608 [0x00] [] State.reset)) = some (.stopped .brk) := by decide

/-- The word of a table row runs as the first instruction after reset (LDA #$05, bits numbered as the table numbers them). -/
theorem test_withFetchWord :
    result (step (State.reset.withFetchWord 16 0x05A9)) [] = some ([0x05, 0, 0, 0xFF, 0x20, 0x0602, 2], []) := by decide

/-! ## Witnesses: a concrete state and operands that meet the hypotheses of each statement -/

/-- The default machine with a reserved limit. -/
def limited (limit : Addr) : State := { State.reset with cfg := { Config.default with reservedLimit := limit } }

/-- The default machine in `vector` mode. -/
def vectored : State := { State.reset with cfg := { Config.default with brkMode := .vector } }

theorem witness_DecodedBytesAreTheEncoding : decode [0x8D, 0xFF, 0xFF, 0x00] = .instr (.staAbs 0xFFFF) [0x00] := by decide

/-- The first and the last row of the catalog in opcode order. -/
theorem witness_OpcodeMapIsR84 :
    (lookupByOpcode 0x00 = some ⟨0x00, .brk, .implied, 7⟩ ∧ (0x00, .brk, .implied, 1, 7) ∈ opcodeRows) ∧
    (lookupByOpcode 0xFE = some ⟨0xFE, .inc, .absoluteX, 7⟩ ∧ (0xFE, .inc, .absoluteX, 3, 7) ∈ opcodeRows) ∧
    opcodeRows.length = 151 := by decide +kernel

theorem witness_NameAndModeLookup :
    lookupByNameAndMode .lda .immediate = some (Instr.ldaImm 0).variant ∧
    ((Instr.ldaImm 0).variant ∈ catalog ∧ (Instr.ldaImm 0).variant.mnemonic = .lda ∧
      (Instr.ldaImm 0).variant.mode = .immediate) ∧
    ((Instr.jsr 0).variant ∈ catalog ∧ (Instr.jsr 0).variant.mnemonic = .jsr ∧
      ∀ w ∈ catalog, w.mnemonic = .jsr → w = (Instr.jsr 0).variant) ∧
    ((Instr.stxZp 0).variant ∈ catalog ∧ (Instr.stxAbs 0).variant ∈ catalog ∧
      (Instr.stxZp 0).variant.mnemonic = .stx ∧ (Instr.stxAbs 0).variant.mnemonic = .stx ∧
      (Instr.stxZp 0).variant ≠ (Instr.stxAbs 0).variant ∧
      ∀ u ∈ catalog, u.mnemonic = .stx → u.mode ≠ .zeroPageX) := by decide +kernel

/-- Fetches of two bytes past 0xFFFF from RAM, and of one byte that a device answers. -/
theorem witness_StepRunsTheDecodedInstruction_fetches :
    let s := placed 0xFFFF [0xA9, 0x05] [] State.reset
    let u := withDevice 0xD000 0xD0FF 0xD000
    (s.ready ∧ decode [0xA9, 0x05] = .instr (.ldaImm 0x05) [] ∧ ∃ t, FetchesTo [0xA9, 0x05] s t) ∧
    (u.ready ∧ decode [0xEA] = .instr .nop [] ∧
      (Config.readAnswer 1 [] 0xD000 = some 0xEA → ∃ t, FetchesTo [0xEA] u t)) :=
  ⟨⟨by decide, by decide, _, _, rfl, _, rfl, rfl⟩, by decide, by decide, fun h =>
    ⟨_, _, answered_read (s := withDevice 0xD000 0xD0FF 0xD000) (a := 0xD000) (p := ⟨0xD000, 0xD0FF, 1⟩)
      (by decide) (by decide) h, rfl⟩⟩

/-- A two-byte instruction, and a three-byte one that wraps past 0xFFFF. -/
theorem witness_StepRunsTheDecodedInstruction :
    let s := placed 0x0600 [0xA9, 0x05] [] State.reset
    let u := placed 0xFFFE [0xAD, 0x34, 0x12] [] State.reset
    (s.ready ∧ decode [s.peek s.pc, s.peek (s.pc + 1), s.peek (s.pc + 2)] = .instr (.ldaImm 0x05) [0x00] ∧
      ∀ k < 2, s.plainAt (s.pc + BitVec.ofNat 16 k)) ∧
    (u.ready ∧ decode [u.peek u.pc, u.peek (u.pc + 1), u.peek (u.pc + 2)] = .instr (.ldaAbs 0x1234) [] ∧
      ∀ k < 3, u.plainAt (u.pc + BitVec.ofNat 16 k)) := by decide

theorem witness_UnassignedOpcodeFaults :
    let s := placed 0x0600 [0x02] [] State.reset
    (s.ready ∧ s.plainAt s.pc ∧ lookupByOpcode (s.peek s.pc) = none) ∧ lookupByOpcode 0x02 = none ∧
      ∃ t, FetchesTo [0x02] s t :=
  ⟨by decide, by decide, _, _, rfl, rfl⟩

theorem witness_StoppedOrFaultedStepDoesNothing :
    let s := { State.reset with status := .stopped .brk }
    let u := { State.reset with status := .faulted (.unknownOpcode 0x02 0x0600) }
    (s.cfg.wellFormed = true ∧ s.resetDone = true ∧ s.status = .stopped .brk) ∧
    (u.cfg.wellFormed = true ∧ u.resetDone = true ∧ u.status = .faulted (.unknownOpcode 0x02 0x0600)) := by decide

/-- The end address at PC; the budget just reached; the budget one short. -/
theorem witness_RunControlChecksInOrder :
    let r := fun s : State => s.cfg.wellFormed = true ∧ s.resetDone = true ∧ s.status = .running
    let s := nops (some 0x0600) none 0x0600 0 0
    let t := nops (some 0x0602) (some 2) 0x0600 4 2
    let u := nops (some 0x0602) (some 3) 0x0600 4 2
    (r s ∧ s.cfg.endAddr = some s.pc) ∧
    (r t ∧ t.cfg.endAddr ≠ some t.pc ∧ t.cfg.stepBudget = some 2 ∧ 2 ≤ t.steps) ∧
    (r u ∧ u.cfg.endAddr ≠ some u.pc ∧ ∀ b, u.cfg.stepBudget = some b → u.steps < b) :=
  ⟨by decide, by decide, by decide, by decide, fun b hb => by cases hb; decide⟩

/-- Data that wraps past 0xFFFF; the first byte after it is not written. -/
theorem witness_LoaderWritesTheBytes :
    State.reset.ram.wf = true ∧ [(0x11 : Byte), 0x22].length - 0 ≤ 65536 ∧
    ∀ k < [(0x11 : Byte), 0x22].length, (0x0001 : Addr) ≠ 0xFFFF + BitVec.ofNat 16 k := by decide

/-- Of 65,537 bytes the first is overwritten and the second is not. -/
theorem witness_LoaderWritesTheBytes_long :
    let data := List.replicate 65537 (0x11 : Byte)
    (¬ data.length - 0 ≤ 65536) ∧ 1 < data.length ∧ data.length - 1 ≤ 65536 := by
  simp only [List.length_replicate]
  omega

/-- Device 1 at 0xD000 to 0xD0FF above the limit 0x0200. -/
def busState : State :=
  { State.reset with cfg := { Config.default with reservedLimit := 0x0200, peripherals := [⟨0xD000, 0xD0FF, 1⟩] } }

/-- Each clause of the bus statements at the ends of its range; no address falls under two clauses. -/
theorem witness_BusReadDispatch_and_BusWriteDispatch :
    let s := busState
    let claimed := fun a : Addr => s.cfg.wellFormed = true ∧ ⟨0xD000, 0xD0FF, 1⟩ ∈ s.cfg.peripherals ∧
      (0xD000 : Addr) ≤ a ∧ a ≤ 0xD0FF
    s.ram.wf = true ∧ (0x01FF : Addr).toNat < s.cfg.reservedLimit.toNat ∧
    (¬ (0xD000 : Addr).toNat < s.cfg.reservedLimit.toNat ∧ claimed 0xD000 ∧ claimed 0xD0FF) ∧
    (¬ (0x0200 : Addr).toNat < s.cfg.reservedLimit.toNat ∧
      ∀ p ∈ s.cfg.peripherals, ¬ (p.first ≤ (0x0200 : Addr) ∧ (0x0200 : Addr) ≤ p.last)) ∧
    ∀ p ∈ s.cfg.peripherals, ¬ (p.first ≤ (0xD100 : Addr) ∧ (0xD100 : Addr) ≤ p.last) := by decide

/-- A mode without pointer bytes above a limit and beside a device; plain RAM; and each pointer mode at a pointer that
wraps, with its two reads. -/
theorem witness_ResolverAddresses :
    (pointerAt .absoluteX 0xFFFF busState = [] ∧ ¬ busState.ramOnly) ∧ State.reset.ramOnly ∧
    (pointerAt .indirect 0x02FF State.reset = [0x02FF, 0x0200] ∧ pointerAt .indirectX 0xFF State.reset = [0x00FF, 0x0000] ∧
      pointerAt .indirectY 0xFF State.reset = [0x00FF, 0x0000]) ∧
    memRead 0x02FF State.reset = .done 0x00 State.reset ∧ memRead 0x0200 State.reset = .done 0x00 State.reset ∧
    memRead 0x00FF State.reset = .done 0x00 State.reset ∧ memRead 0x0000 State.reset = .done 0x00 State.reset := by decide

/-- An immediate form; a memory form that a device answers; a memory form on plain RAM. -/
theorem witness_OperandOfEachForm :
    ((Instr.ldaImm 0x05).mode = .immediate ∧ (Instr.ldaImm 0x05).operand = .byte 0x05) ∧
    (Config.readAnswer 1 [] 0xD0FF = some 0x5A →
      AddressIs (.ldaAbs 0xD0FF) busState 0xD0FF false busState ∧ ∃ u, memRead 0xD0FF busState = .done 0x5A u) ∧
    (State.reset.ramOnly ∧ eaNumber (Instr.ldaIndY 0xFF).mode (Instr.ldaIndY 0xFF).arg.toNat State.reset = some 0 ∧
      (0x00 : Byte).toNat = ramAt State.reset 0) :=
  ⟨by decide, fun h => ⟨rfl, _, answered_read (s := busState) (a := 0xD0FF) (p := ⟨0xD000, 0xD0FF, 1⟩)
    (by decide) (by decide) h⟩, by decide⟩

/-- Pointer bytes (the first, then only the second), an operand, a read-modify-write and three stores that fail; and a
write of INC and of ASL that fails where the device answered the read. -/
theorem witness_FailedAccess_memory :
    let s := limited 0x0100
    let u := withDevice 0xD000 0xD0FF 0x0603
    (∃ f, pointerAt (Instr.ldaIndX 0x10).mode (Instr.ldaIndX 0x10).arg.toNat s = [0x0010, 0x0011] ∧
      memRead 0x0010 s = .failed f) ∧
    (∃ t f, pointerAt (Instr.ldaIndY 0xFF).mode (Instr.ldaIndY 0xFF).arg.toNat (limited 0x0001) = [0x00FF, 0x0000] ∧
      memRead 0x00FF (limited 0x0001) = .done 0x00 t ∧ memRead 0x0000 t = .failed f) ∧
    (∃ t f, AddressIs (.ldaZp 0xFF) s 0x00FF false t ∧ memRead 0x00FF t = .failed f) ∧
    (∃ t f, AddressIs (.incZp 0xFF) s 0x00FF false t ∧ memRead 0x00FF t = .failed f) ∧
    (∃ t f, AddressIs (.staZp 0xFF) s 0x00FF false t ∧ memWrite 0x00FF s.a t = .failed f) ∧
    (∃ t f, AddressIs (.stxZp 0xFF) s 0x00FF false t ∧ memWrite 0x00FF s.x t = .failed f) ∧
    (∃ t f, AddressIs (.styZp 0xFF) s 0x00FF false t ∧ memWrite 0x00FF s.y t = .failed f) ∧
    (Config.readAnswer 1 [] 0xD000 = some 0x7F → Config.writeAnswer 1 [⟨1, 0xD000, .read⟩] 0xD000 0x80 = false →
      (0x80 : Byte).toNat = ((0x7F : Byte).toNat + 1) % 256 ∧ AddressIs (.incAbs 0xD000) u 0xD000 false u ∧
      ∃ v f, memRead 0xD000 u = .done 0x7F v ∧ memWrite 0xD000 0x80 v = .failed f) ∧
    (Config.readAnswer 1 [] 0xD000 = some 0x40 → Config.writeAnswer 1 [⟨1, 0xD000, .read⟩] 0xD000 0x80 = false →
      shiftNumber .asl 0x40 u.p.c = some ((0x80 : Byte).toNat, false) ∧ AddressIs (.aslAbs 0xD000) u 0xD000 false u ∧
      ∃ v f, memRead 0xD000 u = .done 0x40 v ∧ memWrite 0xD000 0x80 v = .failed f) := by
  have hr := fun b => answered_read (s := withDevice 0xD000 0xD0FF 0x0603) (a := 0xD000) (b := b)
    (p := ⟨0xD000, 0xD0FF, 1⟩) (by decide) (by decide)
  have hw := failed_write (s := (withDevice 0xD000 0xD0FF 0x0603).logAccess ⟨1, 0xD000, .read⟩) (a := 0xD000) (v := 0x80)
    (p := ⟨0xD000, 0xD0FF, 1⟩) (by decide) (by decide)
  exact ⟨⟨_, rfl, rfl⟩, ⟨_, _, rfl, rfl, rfl⟩, ⟨_, _, rfl, rfl⟩, ⟨_, _, rfl, rfl⟩, ⟨_, _, rfl, rfl⟩, ⟨_, _, rfl, rfl⟩,
    ⟨_, _, rfl, rfl⟩, fun h g => ⟨by decide, rfl, _, _, hr _ h, hw g⟩, fun h g => ⟨by decide, rfl, _, _, hr _ h, hw g⟩⟩

/-- The default machine with S and a reserved limit, and PC past a one-byte instruction at 0x0600. -/
def stackLimited (sp : Byte) (limit : Addr) : State := { limited limit with sp := sp, pc := 0x0601 }

/-- Pushes and pulls, the first failing, then the first done and the second failing, then only the third. -/
theorem witness_FailedAccess_stack :
    let s := stackLimited 0x80 0x0200
    let u := stackLimited 0xFE 0x0101
    let w := stackLimited 0xFD 0x0101
    let j := { stackLimited 0x80 0x0180 with pc := 0x0603 }
    (∃ f, memWrite (slot s 0) s.a s = .failed f) ∧
    (∃ f, (0x30 : Byte).toNat = s.p.toByte.toNat + 16 ∧ memWrite (slot s 0) 0x30 s = .failed f) ∧
    (∃ f, memRead (pullSlot s 1) { s with sp := s.sp + 1 } = .failed f) ∧
    (∃ lo t f, memRead (pullSlot u 1) { u with sp := u.sp + 1 } = .done lo t ∧
      memRead (pullSlot u 2) { t with sp := u.sp + 2 } = .failed f) ∧
    (∃ p t f, memRead (pullSlot u 1) { u with sp := u.sp + 1 } = .done p t ∧
      memRead (pullSlot u 2) { t with sp := u.sp + 2, p := Flags.ofByte p } = .failed f) ∧
    (∃ p t lo v f, memRead (pullSlot w 1) { w with sp := w.sp + 1 } = .done p t ∧
      memRead (pullSlot w 2) { t with sp := w.sp + 2, p := Flags.ofByte p } = .done lo v ∧
      memRead (pullSlot w 3) { v with sp := w.sp + 3 } = .failed f) ∧
    (j.pc.toNat + 65535) % 65536 = 256 * (0x06 : Byte).toNat + (0x02 : Byte).toNat ∧
    (∃ f, memWrite (slot s 0) 0x06 { s with pc := 0x0603 } = .failed f) ∧
    (∃ t f, memWrite (slot j 0) 0x06 j = .done () t ∧ memWrite (slot j 1) 0x02 { t with sp := j.sp - 1 } = .failed f) :=
  ⟨⟨_, rfl⟩, ⟨_, by decide, rfl⟩, ⟨_, rfl⟩, ⟨_, _, _, rfl, rfl⟩, ⟨_, _, _, rfl, rfl⟩, ⟨_, _, _, _, _, rfl, rfl, rfl⟩,
    by decide, ⟨_, rfl⟩, _, _, rfl, rfl⟩

/-- The machine of `stackLimited` in `vector` mode with a vector. -/
def brkLimited (sp : Byte) (limit vector : Addr) : State :=
  let s := stackLimited sp limit
  { s with cfg := { s.cfg with brkMode := .vector, brkVector := vector } }

/-- BRK's first, second and third push failing, then its first and second vector read, in turn. -/
theorem witness_FailedAccess_brk :
    let ok := fun s : State => s.cfg.brkMode = .vector ∧
      (s.pc.toNat + 1) % 65536 = 256 * (0x06 : Byte).toNat + (0x02 : Byte).toNat
    let w1 := fun s : State => memWrite (slot s 0) 0x06 { s with pc := s.pc + 1 }
    let w2 := fun s s1 : State => memWrite (slot s 1) 0x02 { s1 with sp := s.sp - 1 }
    let w3 := fun s s2 : State => memWrite (slot s 2) (s.p.toByte ||| 0x30) { s2 with sp := s.sp - 2 }
    let r1 := fun s s3 : State => memRead s.cfg.brkVector { s3 with sp := s.sp - 3, p := { s.p with i := true } }
    let a := brkLimited 0x80 0x0181 0xFFFE
    let b := brkLimited 0x81 0x0181 0xFFFE
    let c := brkLimited 0x82 0x0181 0xFFFE
    let d := brkLimited 0xFF 0x0001 0x0000
    let e := brkLimited 0xFF 0x0001 0xFFFF
    (ok a ∧ ∃ f, w1 a = .failed f) ∧
    (ok b ∧ ∃ s1 f, w1 b = .done () s1 ∧ w2 b s1 = .failed f) ∧
    (ok c ∧ ∃ s1 s2 f, w1 c = .done () s1 ∧ w2 c s1 = .done () s2 ∧ w3 c s2 = .failed f) ∧
    (ok d ∧ ∃ s1 s2 s3 f, w1 d = .done () s1 ∧ w2 d s1 = .done () s2 ∧ w3 d s2 = .done () s3 ∧ r1 d s3 = .failed f) ∧
    (ok e ∧ ∃ s1 s2 s3 lo s4 f, w1 e = .done () s1 ∧ w2 e s1 = .done () s2 ∧ w3 e s2 = .done () s3 ∧
      r1 e s3 = .done lo s4 ∧ memRead (e.cfg.brkVector + 1) s4 = .failed f) :=
  ⟨⟨by decide, _, rfl⟩, ⟨by decide, _, _, rfl, rfl⟩, ⟨by decide, _, _, _, rfl, rfl, rfl⟩,
    ⟨by decide, _, _, _, _, rfl, rfl, rfl, rfl⟩, ⟨by decide, _, _, _, _, _, _, rfl, rfl, rfl, rfl, rfl⟩⟩

/-- Fetches that fail at 0x0000 below a limit of 1: of the opcode, and of the operand bytes of an instruction that wraps. -/
theorem witness_FailedAccess_fetch :
    let s := { limited 0x0001 with pc := 0x0000 }
    let u := placed 0xFFFF [0xA9] [] (limited 0x0001)
    let w := placed 0xFFFE [0xAD, 0x34] [] (limited 0x0001)
    (s.ready ∧ ∃ f, memRead s.pc s = .failed f) ∧
    (u.ready ∧ ∃ t f, FetchesTo [0xA9] u t ∧ memRead t.pc t = .failed f) ∧
    (w.ready ∧ ∃ t f, FetchesTo [0xAD, 0x34] w t ∧ memRead t.pc t = .failed f) ∧
    (lookupByOpcode 0xA9 = some ⟨0xA9, .lda, .immediate, 2⟩ ∧ 2 ≤ Mode.immediate.length) ∧
    (lookupByOpcode 0xAD = some ⟨0xAD, .lda, .absolute, 4⟩ ∧ Mode.absolute.length = 3) :=
  ⟨⟨by decide, _, rfl⟩, ⟨by decide, _, _, ⟨_, rfl, rfl⟩, rfl⟩, ⟨by decide, _, _, ⟨_, rfl, _, rfl, rfl⟩, rfl⟩,
    by decide, by decide⟩

/-- An immediate operand, and one read across a page. -/
theorem witness_operands :
    OperandIs (.ldaImm 0x80) State.reset 0x80 false [] ∧ OperandIs (.ldxImm 0x00) State.reset 0x00 false [] ∧
    OperandIs (.ldyImm 0x7F) State.reset 0x7F false [] ∧
    OperandIs (.ldaAbsX 0x02FF) { State.reset with x := 0x01 } 0x00 true [] :=
  ⟨⟨_, _, _, rfl, rfl, rfl, rfl⟩, ⟨_, _, _, rfl, rfl, rfl, rfl⟩, ⟨_, _, _, rfl, rfl, rfl, rfl⟩, ⟨_, _, _, rfl, rfl, rfl, rfl⟩⟩

theorem witness_LoadsLoadTheOperand :
    (OperandIs (.ldaImm 0x80) State.reset 0x80 false [] ∧ (Instr.ldaImm 0x80).mnemonic = .lda) ∧
    (OperandIs (.ldxImm 0x00) State.reset 0x00 false [] ∧ (Instr.ldxImm 0x00).mnemonic = .ldx) ∧
    (OperandIs (.ldyImm 0x7F) State.reset 0x7F false [] ∧ (Instr.ldyImm 0x7F).mnemonic = .ldy) :=
  ⟨⟨witness_operands.1, rfl⟩, ⟨witness_operands.2.1, rfl⟩, ⟨witness_operands.2.2.1, rfl⟩⟩

theorem witness_StoresWriteTheRegister :
    let s := { State.reset with a := 0x11, x := 0x22, y := 0x33 }
    (∃ t u, AddressIs (.staIndY 0xFF) s 0x0033 false t ∧ (Instr.staIndY 0xFF).mnemonic = .sta ∧
      memWrite 0x0033 s.a t = .done () u) ∧
    (∃ t u, AddressIs (.stxZpY 0xFF) s 0x0032 false t ∧ (Instr.stxZpY 0xFF).mnemonic = .stx ∧
      memWrite 0x0032 s.x t = .done () u) ∧
    (∃ t u, AddressIs (.styAbs 0xFFFF) s 0xFFFF false t ∧ (Instr.styAbs 0xFFFF).mnemonic = .sty ∧
      memWrite 0xFFFF s.y t = .done () u) :=
  ⟨⟨_, _, rfl, rfl, rfl⟩, ⟨_, _, rfl, rfl, rfl⟩, ⟨_, _, rfl, rfl, rfl⟩⟩

/-- D clear, and D set under the `binary` policy. -/
theorem witness_AdcAddsWithCarry :
    let s := { State.reset with a := 0xFF, p := .ofByte 0x01 }
    let u := { State.reset with a := 0x09, p := .ofByte 0x08, cfg := { Config.default with decimalPolicy := .binary } }
    ((Instr.adcImm 0x00).mnemonic = .adc ∧ OperandIs (.adcImm 0x00) s 0x00 false [] ∧ addsInBinary s ∧
      (0x00 : Byte).toNat = (s.a.toNat + (0x00 : Byte).toNat + s.p.c.toNat) % 256) ∧
    (OperandIs (.adcImm 0x01) u 0x01 false [] ∧ addsInBinary u ∧
      (0x0A : Byte).toNat = (u.a.toNat + (0x01 : Byte).toNat + u.p.c.toNat) % 256) :=
  ⟨⟨rfl, ⟨_, _, _, rfl, rfl, rfl, rfl⟩, .inl rfl, by decide⟩, ⟨_, _, _, rfl, rfl, rfl, rfl⟩, .inr rfl, by decide⟩

theorem witness_SbcSubtractsWithBorrow :
    let s := { State.reset with p := .ofByte 0x01 }
    (Instr.sbcImm 0x01).mnemonic = .sbc ∧ OperandIs (.sbcImm 0x01) s 0x01 false [] ∧ addsInBinary s ∧
      ((0xFF : Byte).toNat : Int) = ((s.a.toNat : Int) - (0x01 : Byte).toNat - (1 - s.p.c.toNat)) % 256 :=
  ⟨rfl, ⟨_, _, _, rfl, rfl, rfl, rfl⟩, .inl rfl, by decide⟩

theorem witness_DecimalModeFaults :
    let s := { State.reset with a := 0x09, p := .ofByte 0x08 }
    ((Instr.adcImm 0x01).mnemonic = .adc ∧ OperandIs (.adcImm 0x01) s 0x01 false []) ∧
    ((Instr.sbcZp 0x10).mnemonic = .sbc ∧ OperandIs (.sbcZp 0x10) s 0x00 false []) ∧
    s.p.d = true ∧ s.cfg.decimalPolicy = .fault :=
  ⟨⟨rfl, _, _, _, rfl, rfl, rfl, rfl⟩, ⟨rfl, _, _, _, rfl, rfl, rfl, rfl⟩, rfl, rfl⟩

theorem witness_SbcUndoesAdc :
    let s := { State.reset with a := 0x10 }
    (Instr.adcImm 0x05).mnemonic = .adc ∧ (Instr.sbcImm 0x05).mnemonic = .sbc ∧
    OperandIs (.adcImm 0x05) s 0x05 false [] ∧ addsInBinary s ∧
    ∃ t, exec (.adcImm 0x05) s = .next t ∧
      OperandIs (.sbcImm 0x05) { t with p := { t.p with c := !s.p.c } } 0x05 false [] :=
  ⟨rfl, rfl, ⟨_, _, _, rfl, rfl, rfl, rfl⟩, .inl rfl, _, rfl, _, _, _, rfl, rfl, rfl, rfl⟩

theorem witness_ComparesSetCarryZeroNegative :
    (OperandIs (.cmpImm 0xFF) State.reset 0xFF false [] ∧ (Instr.cmpImm 0xFF).mnemonic = .cmp) ∧
    (OperandIs (.cpxImm 0x00) State.reset 0x00 false [] ∧ (Instr.cpxImm 0x00).mnemonic = .cpx) ∧
    (OperandIs (.cpyImm 0x01) State.reset 0x01 false [] ∧ (Instr.cpyImm 0x01).mnemonic = .cpy) :=
  ⟨⟨⟨_, _, _, rfl, rfl, rfl, rfl⟩, rfl⟩, ⟨⟨_, _, _, rfl, rfl, rfl, rfl⟩, rfl⟩, ⟨⟨_, _, _, rfl, rfl, rfl, rfl⟩, rfl⟩⟩

theorem witness_IncDecMemory :
    (∃ w, AddressIs (.incZp 0xFF) State.reset 0x00FF false State.reset ∧
      memRead 0x00FF State.reset = .done 0x00 State.reset ∧ (Instr.incZp 0xFF).mnemonic = .inc ∧
      (0x01 : Byte).toNat = ((0x00 : Byte).toNat + 1) % 256 ∧ memWrite 0x00FF 0x01 State.reset = .done () w) ∧
    (∃ w, AddressIs (.decAbs 0xFFFF) State.reset 0xFFFF false State.reset ∧
      memRead 0xFFFF State.reset = .done 0x00 State.reset ∧ (Instr.decAbs 0xFFFF).mnemonic = .dec ∧
      (0xFF : Byte).toNat = ((0x00 : Byte).toNat + 255) % 256 ∧ memWrite 0xFFFF 0xFF State.reset = .done () w) :=
  ⟨⟨_, rfl, rfl, rfl, by decide, rfl⟩, ⟨_, rfl, rfl, rfl, by decide, rfl⟩⟩

/-- X = 0xFF and Y = 0x00 wrap. -/
theorem witness_IncDecRegisters :
    let s := { State.reset with x := 0xFF, y := 0x00 }
    (0x00 : Byte).toNat = (s.x.toNat + 1) % 256 ∧ (0x01 : Byte).toNat = (s.y.toNat + 1) % 256 ∧
    (0xFE : Byte).toNat = (s.x.toNat + 255) % 256 ∧ (0xFF : Byte).toNat = (s.y.toNat + 255) % 256 := by decide

theorem witness_BitwiseOperations :
    let s := { State.reset with a := 0xF0 }
    (OperandIs (.andImm 0x3C) s 0x3C false [] ∧ (Instr.andImm 0x3C).mnemonic = .and ∧
      ∀ k < 8, (0x30 : Byte).getLsbD k = (s.a.getLsbD k && (0x3C : Byte).getLsbD k)) ∧
    (OperandIs (.oraImm 0x3C) s 0x3C false [] ∧ (Instr.oraImm 0x3C).mnemonic = .ora ∧
      ∀ k < 8, (0xFC : Byte).getLsbD k = (s.a.getLsbD k || (0x3C : Byte).getLsbD k)) ∧
    (OperandIs (.eorImm 0x3C) s 0x3C false [] ∧ (Instr.eorImm 0x3C).mnemonic = .eor ∧
      ∀ k < 8, (0xCC : Byte).getLsbD k = (s.a.getLsbD k ^^ (0x3C : Byte).getLsbD k)) :=
  ⟨⟨⟨_, _, _, rfl, rfl, rfl, rfl⟩, rfl, by decide⟩, ⟨⟨_, _, _, rfl, rfl, rfl, rfl⟩, rfl, by decide⟩,
    ⟨⟨_, _, _, rfl, rfl, rfl, rfl⟩, rfl, by decide⟩⟩

theorem witness_BitTestsTheOperand :
    (Instr.bitAbs 0xFFFF).mnemonic = .bit ∧ OperandIs (.bitAbs 0xFFFF) State.reset 0x00 false [] :=
  ⟨rfl, _, _, _, rfl, rfl, rfl, rfl⟩

theorem witness_AccumulatorShifts :
    let s := { State.reset with a := 0x81, p := .ofByte 0x01 }
    (Instr.aslAcc.mode = .accumulator ∧ shiftNumber Instr.aslAcc.mnemonic s.a s.p.c = some (0x02, true)) ∧
    (Instr.lsrAcc.mode = .accumulator ∧ shiftNumber Instr.lsrAcc.mnemonic s.a s.p.c = some (0x40, true)) ∧
    (Instr.rolAcc.mode = .accumulator ∧ shiftNumber Instr.rolAcc.mnemonic s.a s.p.c = some (0x03, true)) ∧
    (Instr.rorAcc.mode = .accumulator ∧ shiftNumber Instr.rorAcc.mnemonic s.a s.p.c = some (0xC0, true)) := by decide

theorem witness_MemoryShifts :
    let s := { State.reset with p := .ofByte 0x01 }
    ∃ w, AddressIs (.rorAbs 0xFFFF) s 0xFFFF false s ∧ memRead 0xFFFF s = .done 0x00 s ∧
      shiftNumber (Instr.rorAbs 0xFFFF).mnemonic 0x00 s.p.c = some (0x80, false) ∧ (0x80 : Byte).toNat = 0x80 ∧
      memWrite 0xFFFF 0x80 s = .done () w :=
  ⟨_, rfl, rfl, rfl, rfl, rfl⟩

theorem witness_JmpLoadsPc :
    ((Instr.jmpAbs 0x8000).mnemonic = .jmp ∧ AddressIs (.jmpAbs 0x8000) State.reset 0x8000 false State.reset) ∧
    ((Instr.jmpInd 0x02FF).mnemonic = .jmp ∧ AddressIs (.jmpInd 0x02FF) State.reset 0x0000 false State.reset) :=
  ⟨⟨rfl, rfl⟩, rfl, rfl⟩

/-- PC past a JSR at 0x0600. -/
theorem witness_JsrPushesAndJumps :
    let s := { State.reset with pc := 0x0603 }
    (s.pc.toNat + 65535) % 65536 = 256 * (0x06 : Byte).toNat + (0x02 : Byte).toNat ∧
    ∃ t u, memWrite (slot s 0) 0x06 s = .done () t ∧
      memWrite (slot s 1) 0x02 { t with sp := s.sp - 1 } = .done () u :=
  ⟨by decide, _, _, rfl, rfl⟩

/-- S = 0xFF wraps. -/
theorem witness_RtsPullsPc :
    let s := State.reset
    ∃ t u lo hi, memRead (stackAddr (s.sp + 1)) { s with sp := s.sp + 1 } = .done lo t ∧
      memRead (stackAddr (s.sp + 2)) { t with sp := s.sp + 2 } = .done hi u :=
  ⟨_, _, _, _, rfl, rfl⟩

theorem witness_RtiPullsFlagsAndPc :
    let s := State.reset.poke 0x0100 0xFF
    let flags : Flags := ⟨true, true, true, true, true, true⟩
    ∃ t u w lo hi, memRead (stackAddr (s.sp + 1)) { s with sp := s.sp + 1 } = .done 0xFF t ∧
      (flags.n = (0xFF : Byte).getLsbD 7 ∧ flags.v = (0xFF : Byte).getLsbD 6 ∧ flags.d = (0xFF : Byte).getLsbD 3 ∧
        flags.i = (0xFF : Byte).getLsbD 2 ∧ flags.z = (0xFF : Byte).getLsbD 1 ∧ flags.c = (0xFF : Byte).getLsbD 0) ∧
      memRead (stackAddr (s.sp + 2)) { t with sp := s.sp + 2, p := flags } = .done lo u ∧
      memRead (stackAddr (s.sp + 3)) { u with sp := s.sp + 3 } = .done hi w :=
  ⟨_, _, _, _, _, rfl, by decide, rfl, rfl⟩

/-- S = 0x00: the second slot wraps to 0x01FF. -/
theorem witness_RtsReturnsFromJsr :
    let s := { State.reset with sp := 0x00 }
    s.ram.wf = true ∧ s.plainAt (slot s 0) ∧ s.plainAt (slot s 1) := by decide

/-- BNE by -128 at PC 0x0010, taken and not taken. -/
theorem witness_BranchesOnAFlag :
    let s := { State.reset with pc := 0x0010 }
    (branchOn (.bne 0x80) s.p = some (0x80, true) ∧ branchOn (.beq 0x80) s.p = some (0x80, false)) ∧
    (((0xFF90 : Addr).toNat : Int) = ((s.pc.toNat : Int) + (0x80 : Byte).toInt) % 65536) := by decide

theorem witness_BrkSignalStops : State.reset.cfg.brkMode = .signalStop := rfl

theorem witness_BrkVectorEntry :
    let s := { vectored with pc := 0x0601 }
    (s.pc.toNat + 1) % 65536 = 256 * (0x06 : Byte).toNat + (0x02 : Byte).toNat ∧ s.cfg.brkMode = .vector ∧
    ∃ s1 s2 s3 s4 s5 tlo thi, memWrite (slot s 0) 0x06 { s with pc := s.pc + 1 } = .done () s1 ∧
      memWrite (slot s 1) 0x02 { s1 with sp := s.sp - 1 } = .done () s2 ∧
      memWrite (slot s 2) (s.p.toByte ||| 0x30) { s2 with sp := s.sp - 2 } = .done () s3 ∧
      memRead s.cfg.brkVector { s3 with sp := s.sp - 3, p := { s.p with i := true } } = .done tlo s4 ∧
      memRead (s.cfg.brkVector + 1) s4 = .done thi s5 :=
  ⟨by decide, rfl, _, _, _, _, _, _, _, rfl, rfl, rfl, rfl, rfl⟩

theorem witness_RtiResumesAfterBrk :
    vectored.ram.wf = true ∧ vectored.ramOnly ∧ vectored.cfg.brkMode = .vector := by decide

theorem witness_PushesWriteTheStack :
    let s := { State.reset with a := 0x42, sp := 0x00 }
    (∃ t, memWrite (slot s 0) s.a s = .done () t) ∧ (0x30 : Byte).toNat = s.p.toByte.toNat + 16 ∧
    ∃ t, memWrite (slot s 0) 0x30 s = .done () t :=
  ⟨⟨_, rfl⟩, by decide, _, rfl⟩

theorem witness_PullsReadTheStack :
    let s := State.reset
    ∃ v t, memRead (stackAddr (s.sp + 1)) { s with sp := s.sp + 1 } = .done v t :=
  ⟨_, _, rfl⟩

/-- Each flag changes under some instruction. -/
theorem witness_FlagWriters :
    let s := State.reset
    let u := { State.reset with p := .ofByte 0x40 }
    (∃ t, exec .sec s = .next t ∧ t.p.c ≠ s.p.c) ∧ (∃ t, exec .clv u = .next t ∧ t.p.v ≠ u.p.v) ∧
    (∃ t, exec .sei s = .next t ∧ t.p.i ≠ s.p.i) ∧ (∃ t, exec .brk vectored = .next t ∧ t.p.i ≠ vectored.p.i) ∧
    (∃ t, exec .sed s = .next t ∧ t.p.d ≠ s.p.d) ∧ (∃ t, exec (.ldaImm 0x80) s = .next t ∧ t.p.n ≠ s.p.n) ∧
    (∃ t, exec (.ldaImm 0x00) s = .next t ∧ t.p.z ≠ s.p.z) :=
  ⟨⟨_, rfl, by decide⟩, ⟨_, rfl, by decide⟩, ⟨_, rfl, by decide⟩, ⟨_, rfl, by decide⟩, ⟨_, rfl, by decide⟩,
    ⟨_, rfl, by decide⟩, ⟨_, rfl, by decide⟩⟩

/-- Each register changes under some instruction. -/
theorem witness_RegisterWriters :
    let s := { State.reset with a := 0x01, x := 0x02, y := 0x03 }
    (∃ t, exec .txa s = .next t ∧ t.a ≠ s.a) ∧ (∃ t, exec .aslAcc s = .next t ∧ t.a ≠ s.a) ∧
    (∃ t, exec .inx s = .next t ∧ t.x ≠ s.x) ∧ (∃ t, exec .dey s = .next t ∧ t.y ≠ s.y) ∧
    (∃ t, exec .pha s = .next t ∧ t.sp ≠ s.sp) ∧ (∃ t, exec .brk vectored = .next t ∧ t.sp ≠ vectored.sp) ∧
    (∃ t, exec (.jmpAbs 0x8000) s = .next t ∧ t.pc ≠ s.pc) ∧ (∃ t, exec (.bne 0x10) s = .next t ∧ t.pc ≠ s.pc) :=
  ⟨⟨_, rfl, by decide⟩, ⟨_, rfl, by decide⟩, ⟨_, rfl, by decide⟩, ⟨_, rfl, by decide⟩, ⟨_, rfl, by decide⟩,
    ⟨_, rfl, by decide⟩, ⟨_, rfl, by decide⟩, ⟨_, rfl, by decide⟩⟩

/-- STA to 0x0010 stores there, and 0x0011 is an address it does not store to. -/
theorem witness_MemoryFrame :
    State.reset.ram.wf = true ∧ (∃ t, exec (.staZp 0x10) State.reset = .next t) ∧
    storesAt (.staZp 0x10) State.reset 0x0010 ∧ ¬ storesAt (.staZp 0x10) State.reset 0x0011 := by
  refine ⟨rfl, ⟨_, rfl⟩, .inl ⟨by decide, _, _, rfl⟩, ?_⟩
  rintro (⟨-, _, _, h⟩ | ⟨h, -⟩ | ⟨h, -⟩ | ⟨h, -⟩)
  · have h' : Run.done (⟨some 0x0010, false⟩ : Resolved) State.reset = .done ⟨some 0x0011, _⟩ _ := h
    injection h' with h'
    injection h' with h'
    exact absurd h' (by decide)
  · exact absurd h (by decide)
  · exact absurd h (by decide)
  · exact absurd h (by decide)

/-- One device on the whole address space: NOP completes whatever the device answers, and PHA where it accepts. -/
theorem witness_AccessesAreThoseListed :
    let s := withDevice 0x0000 0xFFFF 0x0601
    s.cfg.peripherals = [{ first := 0, last := 0xFFFF, device := 1 }] ∧ (∃ t, exec .nop s = .next t) ∧
    (Config.writeAnswer 1 [] 0x01FF 0x00 = true → ∃ t, exec .pha s = .next t) := by
  refine ⟨rfl, ⟨_, rfl⟩, fun h => ?_⟩
  have hm := accepted_write (s := withDevice 0x0000 0xFFFF 0x0601) (a := 0x01FF) (v := 0x00) (p := ⟨0x0000, 0xFFFF, 1⟩)
    (by decide) (by decide) h
  exact ⟨_, execute_eq_next.mpr ⟨⟨none, false⟩, _, 0, _, rfl,
    Run.andThen_eq_done.mpr ⟨(), _, Run.andThen_eq_done.mpr ⟨(), _, hm, rfl⟩, rfl⟩, rfl⟩⟩

/-- A step that completes an instruction, and one that stops the run for each reason. -/
theorem witness_StepKeepsConfigurationAndCounts :
    (∃ t, step (nops none none 0x0600 0 0) = .next t ∧ t.status = .running) ∧
    (∃ t, step (nops (some 0x0600) none 0x0600 0 0) = .next t ∧ t.status = .stopped .endAddress) ∧
    (∃ t, step (nops none (some 0) 0x0600 0 0) = .next t ∧ t.status = .stopped .stepBudget) ∧
    (∃ t, step State.reset = .next t ∧ t.status = .stopped .brk) :=
  ⟨⟨_, rfl, rfl⟩, ⟨_, rfl, rfl⟩, ⟨_, rfl, rfl⟩, _, rfl, rfl⟩

theorem witness_CostBetweenTwoAndEight :
    ∃ t, exec (.rorAbsX 0x00FF) { State.reset with x := 0x01 } = .next t ∧ t.cycles = 8 := ⟨_, rfl, rfl⟩

theorem witness_FaultEndsTheRun :
    ∃ record left, (limited 0x0800).status = .running ∧ step (limited 0x0800) = .fault (.raised record left) :=
  ⟨_, _, rfl, rfl⟩

theorem witness_FaultCodesAndReach :
    ∃ left, (limited 0x0800).status = .running ∧
      step (limited 0x0800) = .fault (.raised (.invalidAddress 0x0600 .read) left) := ⟨_, rfl, rfl⟩

theorem witness_BudgetBoundsTheRun :
    let s := nops none (some 1) 0x0600 0 0
    s.cfg.stepBudget = some 1 ∧ s.steps ≤ 1 ∧ ∃ t, run 2 s = .next t ∧ t.status = .stopped .stepBudget :=
  ⟨rfl, by decide, _, rfl, rfl⟩

/-- A state with a logged access that meets the invariant and takes a step. -/
theorem witness_StepKeepsInvariant :
    let s := { withDevice 0xD000 0xD0FF 0x0600 with periphLog := [⟨1, 0xD0FF, .read⟩], cycles := 5, steps := 1 }
    s.Inv ∧ ∃ t, step s = .next t :=
  ⟨⟨rfl, by decide, by decide, by decide⟩, _, rfl⟩

theorem witness_InvariantHoldsAtReset : Memory.wf [] = true := rfl

end Sys2Proof.Tests
end

section
/-! PROOF. Facts of family 10_state: the status register, the Loader, and the reset state. -/

namespace Sys2Proof

/-- Bit 7 of a byte is set iff the byte is at least 128. -/
theorem getLsbD_seven (v : Byte) : v.getLsbD 7 = decide (128 ≤ v.toNat) :=
  v.msb_eq_getLsbD_last.symm.trans v.msb_eq_decide

end Sys2Proof

namespace Sys2Proof.Machine

/-! ### SetNZ (R27) -/

/-- SetNZ is `nz`, its reading on the byte's number. -/
theorem Flags.setNZ_eq_nz (v : Byte) (p : Flags) : Flags.setNZ v p = Claims.nz v p := by
  have hz : v = 0 ↔ v.toNat = 0 := by rw [← BitVec.toNat_inj]; rfl
  simp only [Flags.setNZ, Claims.nz, hz, getLsbD_seven]

/-! ### The image of P (R26) -/

/-- The byte of eight bits, bit 7 first. -/
def byteOfBits (b7 b6 b5 b4 b3 b2 b1 b0 : Bool) : Byte :=
  BitVec.ofBool b7 ++ BitVec.ofBool b6 ++ BitVec.ofBool b5 ++ BitVec.ofBool b4 ++
    BitVec.ofBool b3 ++ BitVec.ofBool b2 ++ BitVec.ofBool b1 ++ BitVec.ofBool b0

theorem toNat_byteOfBits (b7 b6 b5 b4 b3 b2 b1 b0 : Bool) :
    (byteOfBits b7 b6 b5 b4 b3 b2 b1 b0).toNat = 128 * b7.toNat + 64 * b6.toNat + 32 * b5.toNat + 16 * b4.toNat +
      8 * b3.toNat + 4 * b2.toNat + 2 * b1.toNat + b0.toNat := by
  have append_bit : ∀ {n : Nat} (w : BitVec n) (b : Bool), (w ++ BitVec.ofBool b).toNat = 2 * w.toNat + b.toNat := by
    intro n w b
    rw [BitVec.toNat_append, BitVec.toNat_ofBool, ← Nat.shiftLeft_add_eq_or_of_lt (by cases b <;> decide),
      Nat.shiftLeft_eq]
    omega
  simp only [byteOfBits, append_bit, BitVec.toNat_ofBool]
  omega

theorem getLsbD_byteOfBits (b7 b6 b5 b4 b3 b2 b1 b0 : Bool) (k : Nat) :
    (byteOfBits b7 b6 b5 b4 b3 b2 b1 b0).getLsbD k = [b0, b1, b2, b3, b4, b5, b6, b7].getD k false := by
  simp only [byteOfBits, BitVec.getLsbD_append, BitVec.getLsbD_ofBool]
  match k with
  | 0 | 1 | 2 | 3 | 4 | 5 | 6 | 7 => rfl
  | k + 8 => simp

theorem ofByte_byteOfBits (n v b5 b4 d i z c : Bool) :
    Flags.ofByte (byteOfBits n v b5 b4 d i z c) = { n := n, v := v, d := d, i := i, z := z, c := c } := by
  simp only [Flags.ofByte, getLsbD_byteOfBits]
  rfl

theorem Flags.toByte_eq_byteOfBits (p : Flags) : p.toByte = byteOfBits p.n p.v true false p.d p.i p.z p.c := rfl

/-- The pushed copy differs from the image in bit 4 (R26, D8). -/
theorem Flags.pushed_eq_byteOfBits (p : Flags) : p.pushed = byteOfBits p.n p.v true true p.d p.i p.z p.c := by
  apply BitVec.eq_of_getLsbD_eq
  intro k hk
  simp only [Flags.pushed, Flags.toByte_eq_byteOfBits, BitVec.getLsbD_or, getLsbD_byteOfBits]
  interval_cases k <;> simp

/-- The image of a loaded byte is the byte with bit 5 set and bit 4 clear (R26). -/
theorem Flags.toByte_ofByte (b : Byte) : (Flags.ofByte b).toByte = (b &&& 0xCF) ||| 0x20 := by
  apply BitVec.eq_of_getLsbD_eq
  intro k hk
  simp only [Flags.toByte_eq_byteOfBits, Flags.ofByte, BitVec.getLsbD_or, BitVec.getLsbD_and, getLsbD_byteOfBits]
  interval_cases k <;> simp

/-! ### The Loader and the boot -/

/-- The Loader changes RAM only (R53). -/
theorem State.loadBytes_frame (s : State) (a : Addr) (data : List Byte) :
    s.loadBytes a data = { s with ram := (s.loadBytes a data).ram } := by
  induction data generalizing s a with
  | nil => rfl
  | cons b rest ih => exact ih (s.poke a b) (a + 1)

/-- With zero counters and an empty history, the canonical form of RAM is all the invariant asks. -/
theorem State.inv_of_fresh {s : State} (hram : s.ram.wf = true) (hcycles : s.cycles = 0) (hsteps : s.steps = 0)
    (hlog : s.periphLog = []) : s.Inv where
  ramForm := hram
  costLow := by omega
  costHigh := by omega
  logOwned := by simp [hlog]

end Sys2Proof.Machine

open Sys2Proof Sys2Proof.Machine

/-- Settles O13: each value is the field of `State.reset`. -/
theorem resetStateValues : Obligations.ResetStateValues :=
  ⟨rfl, rfl, rfl, rfl, rfl, rfl, rfl, rfl, rfl, rfl⟩

/-- Settles O20, through the reading of SetNZ on the byte's number: it cannot be 0 and at least 128. -/
theorem setNZRule : Obligations.SetNZRule := by
  intro v p
  rw [Flags.setNZ_eq_nz]
  refine ⟨rfl, ?_⟩
  rintro ⟨hn, hz⟩
  have hn : 128 ≤ v.toNat := of_decide_eq_true hn
  have hz : v.toNat = 0 := of_decide_eq_true hz
  omega

/-- Settles O23: the image and the pushed copy are bytes of eight bits, whose number and flags are known. -/
theorem statusByteImage : Obligations.StatusByteImage := by
  refine ⟨fun p => ⟨?_, ?_, ?_, ?_⟩, Flags.toByte_ofByte⟩
  · simp [Flags.toByte_eq_byteOfBits, toNat_byteOfBits]
  · simp only [Flags.pushed_eq_byteOfBits, Flags.toByte_eq_byteOfBits, toNat_byteOfBits, Bool.toNat_true, Bool.toNat_false]
    omega
  · rw [Flags.toByte_eq_byteOfBits, ofByte_byteOfBits]
  · rw [Flags.pushed_eq_byteOfBits, ofByte_byteOfBits]

/-- Settles O60: counters and history are empty after reset and after a boot, and the Loader keeps RAM canonical. -/
theorem invariantHoldsAtReset : Obligations.InvariantHoldsAtReset := by
  refine ⟨State.inv_of_fresh State.reset_ram_wf rfl rfl rfl, fun cfg mem program hmem => ?_⟩
  refine State.inv_of_fresh ?_ rfl rfl ?_
  · exact State.wf_loadBytes (s := State.powerOn cfg mem) hmem cfg.loadAddr program
  · exact congrArg State.periphLog (State.loadBytes_frame (State.powerOn cfg mem) cfg.loadAddr program)
end

section
/-! PROOF. Who writes each flag and register (10_state R21 to R24, R28): a completed instruction is bus accesses, which
keep the registers, and its mnemonic's own writes. -/

namespace Sys2Proof.Machine

/-! ### What the flag operations leave alone -/

@[simp] theorem Flags.setNZ_c (v : Byte) (p : Flags) : (Flags.setNZ v p).c = p.c := rfl
@[simp] theorem Flags.setNZ_v (v : Byte) (p : Flags) : (Flags.setNZ v p).v = p.v := rfl
@[simp] theorem Flags.setNZ_i (v : Byte) (p : Flags) : (Flags.setNZ v p).i = p.i := rfl
@[simp] theorem Flags.setNZ_d (v : Byte) (p : Flags) : (Flags.setNZ v p).d = p.d := rfl
@[simp] theorem Flags.setSum_i (r : AluResult) (p : Flags) : (Flags.setSum r p).i = p.i := rfl
@[simp] theorem Flags.setSum_d (r : AluResult) (p : Flags) : (Flags.setSum r p).d = p.d := rfl
@[simp] theorem Flags.compare_v (r m : Byte) (p : Flags) : (Flags.compare r m p).v = p.v := rfl
@[simp] theorem Flags.compare_i (r m : Byte) (p : Flags) : (Flags.compare r m p).i = p.i := rfl
@[simp] theorem Flags.compare_d (r m : Byte) (p : Flags) : (Flags.compare r m p).d = p.d := rfl
@[simp] theorem Flags.setShift_v (r : ShiftResult) (p : Flags) : (Flags.setShift r p).v = p.v := rfl
@[simp] theorem Flags.setShift_i (r : ShiftResult) (p : Flags) : (Flags.setShift r p).i = p.i := rfl
@[simp] theorem Flags.setShift_d (r : ShiftResult) (p : Flags) : (Flags.setShift r p).d = p.d := rfl
@[simp] theorem Flags.bitTest_c (a m : Byte) (p : Flags) : (Flags.bitTest a m p).c = p.c := rfl
@[simp] theorem Flags.bitTest_i (a m : Byte) (p : Flags) : (Flags.bitTest a m p).i = p.i := rfl
@[simp] theorem Flags.bitTest_d (a m : Byte) (p : Flags) : (Flags.bitTest a m p).d = p.d := rfl

/-! ### Bus accesses keep the registers -/

/-- `t` has the registers, flags and configuration of `s`. -/
def SameRegisters (s t : State) : Prop :=
  t.a = s.a ∧ t.x = s.x ∧ t.y = s.y ∧ t.sp = s.sp ∧ t.pc = s.pc ∧ t.p = s.p ∧ t.cfg = s.cfg

theorem SameRegisters.refl (s : State) : SameRegisters s s := ⟨rfl, rfl, rfl, rfl, rfl, rfl, rfl⟩

theorem SameButBus.sameRegisters {s t : State} (h : SameButBus s t) : SameRegisters s t := by
  rw [h]
  exact .refl s

theorem SameButLog.sameRegisters {s t : State} (h : SameButLog s t) : SameRegisters s t :=
  h.toBus.sameRegisters

/-! ### Each shape of behaviour as a write after bus accesses -/

section
variable {s t : State} {mode : Mode} {fr : Fragment} {k : Nat}

theorem readThen_writes {f : Byte → State → State} (h : readThen f mode fr s = .done k t) :
    ∃ m u, SameRegisters s u ∧ t = f m u := by
  obtain ⟨m, u, hread, -, ht⟩ := readThen_done.mp h
  exact ⟨m, u, (readOperand_sameButLog hread).sameRegisters, ht⟩

theorem addWith_writes {f : Byte → Byte} (h : addWith f mode fr s = .done k t) :
    ∃ r u, SameRegisters s u ∧ t = (u.setA r.r).setP (Flags.setSum r u.p) := by
  obtain ⟨m, u, hread, -, -, ht⟩ := addWith_done.mp h
  exact ⟨_, u, (readOperand_sameButLog hread).sameRegisters, ht⟩

theorem storeOf_writes {value : State → Byte} (h : storeOf value mode fr s = .done k t) : SameRegisters s t := by
  obtain ⟨a, -, hwrite, -⟩ := storeOf_done.mp h
  exact (memWrite_sameButBus hwrite).sameRegisters

theorem modifyBy_writes {f : Byte → Byte} (h : modifyBy f mode fr s = .done k t) :
    ∃ r u, SameRegisters s u ∧ t = u.setNZ r := by
  obtain ⟨a, v, u, w, -, hread, hwrite, -, ht⟩ := modifyBy_done.mp h
  exact ⟨f v, w, ((memRead_sameButLog hread).toBus.trans (memWrite_sameButBus hwrite)).sameRegisters, ht⟩

/-- A shift writes A in accumulator mode only. -/
theorem shiftBy_writes {op : Byte → Bool → ShiftResult} (h : shiftBy op mode fr s = .done k t) :
    ∃ r u, SameRegisters s u ∧
      (mode = .accumulator ∧ t = (u.setA r.r).setP (Flags.setShift r u.p) ∨ t = u.setP (Flags.setShift r u.p)) := by
  obtain ⟨hmode, -, ht⟩ | ⟨-, a, v, u, w, -, hread, hwrite, -, ht⟩ := shiftBy_done.mp h
  · exact ⟨_, s, .refl s, .inl ⟨hmode, ht⟩⟩
  · exact ⟨_, w, ((memRead_sameButLog hread).toBus.trans (memWrite_sameButBus hwrite)).sameRegisters, .inr ht⟩

theorem branchIf_writes {cond : Flags → Bool} (h : branchIf cond mode fr s = .done k t) : ∃ target, t = s.setPc target := by
  obtain ⟨-, ht, -⟩ | ⟨-, ht, -⟩ := branchIf_done.mp h
  · exact ⟨_, ht⟩
  · exact ⟨s.pc, ht⟩

/-- BRK moves PC past its padding byte; its entry sequence runs in `vector` mode only (R243). -/
theorem behaveBrk_cases (h : behaveBrk mode fr s = .done k t) :
    (s.cfg.brkMode = .signalStop ∧ t = (s.setPc (s.pc + 1)).setStatus (.stopped .brk)) ∨
    (s.cfg.brkMode = .vector ∧ brkEntry (s.setPc (s.pc + 1)) = .done () t) := by
  simp only [behaveBrk, State.setPc_cfg] at h
  cases hmode : s.cfg.brkMode <;> simp only [hmode] at h
  case signalStop =>
    cases h
    exact .inl ⟨rfl, rfl⟩
  case vector =>
    obtain ⟨_, u, hentry, h⟩ := Run.andThen_eq_done.mp h
    cases h
    exact .inr ⟨rfl, hentry⟩

end

/-! ### The writers of each flag and register -/

/-- The conditional branches (R235 to R242). -/
abbrev branchMnemonics : List Mnemonic := [.bpl, .bmi, .bvc, .bvs, .bcc, .bcs, .bne, .beq]

theorem Instr.mode_of_mem_branchMnemonics {i : Instr} (h : i.mnemonic ∈ branchMnemonics) : i.mode = .relative := by
  cases i <;> simp [Instr.mnemonic, Instr.variant, branchMnemonics, Instr.mode] at h ⊢

/-- From `s` to `t` a flag or register changes only if the mnemonic, in its mode, is in its row (R21 to R24, R28). -/
structure WritesByRow (mn : Mnemonic) (mode : Mode) (s t : State) : Prop where
  c : t.p.c ≠ s.p.c → mn ∈ [Mnemonic.adc, .sbc, .cmp, .cpx, .cpy, .asl, .lsr, .rol, .ror, .sec, .clc, .plp, .rti]
  v : t.p.v ≠ s.p.v → mn ∈ [Mnemonic.adc, .sbc, .bit, .clv, .plp, .rti]
  i : t.p.i ≠ s.p.i → mn ∈ [Mnemonic.sei, .cli, .plp, .rti] ∨ mn = .brk ∧ s.cfg.brkMode = .vector
  d : t.p.d ≠ s.p.d → mn ∈ [Mnemonic.sed, .cld, .plp, .rti]
  nz : t.p.n ≠ s.p.n ∨ t.p.z ≠ s.p.z → mn ∈
    [Mnemonic.lda, .ldx, .ldy, .tax, .tay, .txa, .tya, .tsx, .pla, .adc, .sbc, .cmp, .cpx, .cpy, .inc, .dec, .inx, .iny,
     .dex, .dey, .and, .ora, .eor, .asl, .lsr, .rol, .ror, .bit, .plp, .rti]
  a : t.a ≠ s.a → mn ∈ [Mnemonic.lda, .pla, .txa, .tya, .adc, .sbc, .and, .ora, .eor] ∨ mode = .accumulator
  x : t.x ≠ s.x → mn ∈ [Mnemonic.ldx, .tax, .tsx, .inx, .dex]
  y : t.y ≠ s.y → mn ∈ [Mnemonic.ldy, .tay, .iny, .dey]
  sp : t.sp ≠ s.sp → mn ∈ [Mnemonic.txs, .pha, .php, .pla, .plp, .jsr, .rts, .rti] ∨ mn = .brk ∧ s.cfg.brkMode = .vector
  pc : t.pc ≠ s.pc → mn ∈ [Mnemonic.jmp, .jsr, .rts, .rti, .brk] ∨ mn ∈ branchMnemonics

/-- Bus accesses before the writes change nothing about them. -/
theorem WritesByRow.after {mn : Mnemonic} {mode : Mode} {s u t : State} (hu : SameRegisters s u)
    (h : WritesByRow mn mode u t) : WritesByRow mn mode s t := by
  obtain ⟨ha, hx, hy, hsp, hpc, hp, hcfg⟩ := hu
  exact {
    c := hp ▸ h.c, v := hp ▸ h.v, i := hp ▸ hcfg ▸ h.i, d := hp ▸ h.d, nz := hp ▸ h.nz
    a := ha ▸ h.a, x := hx ▸ h.x, y := hy ▸ h.y, sp := hsp ▸ hcfg ▸ h.sp, pc := hpc ▸ h.pc }

/-- A state that kept its registers is in every row. -/
theorem WritesByRow.of_sameRegisters {mn : Mnemonic} {mode : Mode} {s t : State} (h : SameRegisters s t) :
    WritesByRow mn mode s t :=
  .after h (by constructor <;> simp)

/-- One case per shape of behaviour, and per behaviour that has none. -/
theorem behaviourOf_writesByRow {mn : Mnemonic} {mode : Mode} {fr : Fragment} {s t : State} {k : Nat}
    (h : behaviourOf mn mode fr s = .done k t) : WritesByRow mn mode s t := by
  cases mn <;> simp only [behaviourOf] at h
  case lda | ldx | ldy | and | ora | eor | cmp | cpx | cpy | bit =>
    obtain ⟨m, u, hu, rfl⟩ := readThen_writes h
    exact .after hu (by constructor <;> simp)
  case adc | sbc =>
    obtain ⟨r, u, hu, rfl⟩ := addWith_writes h
    exact .after hu (by constructor <;> simp)
  case sta | stx | sty =>
    exact .of_sameRegisters (storeOf_writes h)
  case inc | dec =>
    obtain ⟨r, u, hu, rfl⟩ := modifyBy_writes h
    exact .after hu (by constructor <;> simp)
  case asl | lsr | rol | ror =>
    obtain ⟨r, u, hu, ⟨rfl, rfl⟩ | rfl⟩ := shiftBy_writes h
    all_goals exact .after hu (by constructor <;> simp)
  case tax | tay | txa | tya | tsx | txs | inx | iny | dex | dey | clc | sec | cli | sei | cld | sed | clv | nop =>
    obtain ⟨-, rfl⟩ := registerOnly_done.mp h
    constructor <;> simp
  case bpl | bmi | bvc | bvs | bcc | bcs | bne | beq =>
    obtain ⟨target, rfl⟩ := branchIf_writes h
    constructor <;> simp
  case jmp =>
    obtain ⟨a, -, h⟩ := withEa_done.mp h
    cases h
    constructor <;> simp
  case pha | php =>
    obtain ⟨_, u, hpush, h⟩ := Run.andThen_eq_done.mp h
    cases h
    rw [push_frame hpush]
    constructor <;> simp
  case jsr =>
    obtain ⟨_, u, hpush, h⟩ := Run.andThen_eq_done.mp h
    cases h
    rw [pushPair_frame hpush]
    constructor <;> simp
  case pla | plp =>
    obtain ⟨v, u, hpull, h⟩ := Run.andThen_eq_done.mp h
    cases h
    rw [pull_frame hpull]
    constructor <;> simp
  case rts =>
    obtain ⟨target, u, hpull, h⟩ := Run.andThen_eq_done.mp h
    cases h
    rw [pullPair_frame hpull]
    constructor <;> simp
  case rti =>
    obtain ⟨_, u, hreturn, h⟩ := Run.andThen_eq_done.mp h
    cases h
    rw [returnFromBreak_frame hreturn]
    constructor <;> simp
  case brk =>
    obtain ⟨-, rfl⟩ | ⟨hmode, hentry⟩ := behaveBrk_cases h
    · constructor <;> simp
    · rw [brkEntry_frame hentry]
      constructor <;> simp [hmode]

/-- A completed instruction: the resolver's reads keep the registers, its behaviour writes by its rows, and finalizing
writes the counters only. -/
theorem exec_writesByRow {i : Instr} {s t : State} (h : exec i s = .next t) :
    WritesByRow i.mnemonic i.mode s t := by
  rw [exec_eq_execute] at h
  obtain ⟨r, u, extra, w, hresolve, hbehave, rfl⟩ := execute_eq_next.mp h
  have hw := (behaviourOf_writesByRow hbehave).after (resolve_sameButLog hresolve).sameRegisters
  exact ⟨hw.c, hw.v, hw.i, hw.d, hw.nz, hw.a, hw.x, hw.y, hw.sp, hw.pc⟩

end Sys2Proof.Machine

open Sys2Proof.Machine

/-- Settles O50: the flag rows among the rows of a completed instruction. -/
theorem flagWriters : Obligations.FlagWriters := by
  intro i s t h
  have hw := exec_writesByRow h
  exact ⟨hw.c, hw.v, hw.i, hw.d, hw.nz⟩

/-- Settles O51: the register rows among the rows of a completed instruction; the branches are the relative forms. -/
theorem registerWriters : Obligations.RegisterWriters := by
  intro i s t h
  have hw := exec_writesByRow h
  exact ⟨hw.a, hw.x, hw.y, hw.sp, fun hpc => (hw.pc hpc).imp_right Instr.mode_of_mem_branchMnemonics⟩
end

section
/-! PROOF. Facts of family 20_memory: well-formed configurations, the bus dispatch and the Loader. -/

namespace Sys2Proof

/-! ### Peripheral ranges (R56) -/

/-- The address lies in the peripheral's range (R55). -/
def Peripheral.Covers (p : Peripheral) (a : Addr) : Prop := p.first ≤ a ∧ a ≤ p.last

/-- Two ordered ranges are disjoint iff no address lies in both: an overlap contains the larger first address. -/
theorem Peripheral.disjointFrom_iff {p q : Peripheral} (hp : p.first ≤ p.last) (hq : q.first ≤ q.last) :
    p.disjointFrom q = true ↔ ∀ a : Addr, ¬ (p.Covers a ∧ q.Covers a) := by
  simp only [Peripheral.disjointFrom, Peripheral.Covers, Bool.or_eq_true, decide_eq_true_eq]
  constructor
  · rintro h a ⟨⟨hpa, hap⟩, hqa, haq⟩
    bv_omega
  · intro h
    have hpfirst := h p.first
    have hqfirst := h q.first
    bv_omega

theorem peripheralsWellFormed_iff (ps : List Peripheral) :
    peripheralsWellFormed ps = true ↔
      (∀ p ∈ ps, p.first ≤ p.last) ∧ ps.Pairwise fun p q => ∀ a : Addr, ¬ (p.Covers a ∧ q.Covers a) := by
  induction ps with
  | nil => simp [peripheralsWellFormed]
  | cons p rest ih =>
    simp only [peripheralsWellFormed, Peripheral.rangeOrdered, Bool.and_eq_true, decide_eq_true_eq, List.all_eq_true, ih,
      List.forall_mem_cons, List.pairwise_cons]
    constructor
    · rintro ⟨⟨hp, hdisjoint⟩, hrest, hpairs⟩
      exact ⟨⟨hp, hrest⟩, fun q hq => (Peripheral.disjointFrom_iff hp (hrest q hq)).mp (hdisjoint q hq), hpairs⟩
    · rintro ⟨⟨hp, hrest⟩, hdisjoint, hpairs⟩
      exact ⟨⟨hp, fun q hq => (Peripheral.disjointFrom_iff hp (hrest q hq)).mpr (hdisjoint q hq)⟩, hrest, hpairs⟩

/-- In a well-formed configuration at most one peripheral claims an address. -/
theorem Config.covers_unique {c : Config} (h : c.wellFormed = true) {p q : Peripheral} (hp : p ∈ c.peripherals)
    (hq : q ∈ c.peripherals) {a : Addr} (hpa : p.Covers a) (hqa : q.Covers a) : p = q := by
  obtain ⟨-, hpairs⟩ := (peripheralsWellFormed_iff c.peripherals).mp h
  have hsymm : Std.Symm fun p q : Peripheral => ∀ a : Addr, ¬ (p.Covers a ∧ q.Covers a) :=
    ⟨fun _ _ hdisjoint b hb => hdisjoint b hb.symm⟩
  by_contra hne
  exact hpairs.forall hp hq hne a ⟨hpa, hqa⟩

end Sys2Proof

namespace Sys2Proof.Machine

/-! ### Which peripheral answers (R54) -/

/-- The peripheral found for an address is bound there. -/
theorem State.covers_of_peripheralAt {s : State} {a : Addr} {p : Peripheral} (h : s.peripheralAt a = some p) :
    p ∈ s.cfg.peripherals ∧ p.Covers a :=
  ⟨List.mem_of_find?_eq_some h, by simpa [Peripheral.Covers] using List.find?_some h⟩

theorem State.peripheralAt_eq_none {s : State} {a : Addr} :
    s.peripheralAt a = none ↔ ∀ p ∈ s.cfg.peripherals, ¬ p.Covers a := by
  simp [State.peripheralAt, Peripheral.Covers]

/-- In a well-formed configuration the peripheral that claims an address is the one found there. -/
theorem State.peripheralAt_of_covers {s : State} (h : s.cfg.wellFormed = true) {a : Addr} {p : Peripheral}
    (hp : p ∈ s.cfg.peripherals) (hpa : p.Covers a) : s.peripheralAt a = some p := by
  cases hq : s.peripheralAt a with
  | none => exact absurd hpa (State.peripheralAt_eq_none.mp hq p hp)
  | some q =>
    obtain ⟨hmem, hqa⟩ := State.covers_of_peripheralAt hq
    rw [Config.covers_unique h hp hmem hpa hqa]

/-! ### The outcome of an access in each case of the dispatch (R54, R57) -/

section
variable {s : State} {a : Addr} {p : Peripheral}

theorem memRead_reserved (h : a < s.cfg.reservedLimit) : memRead a s = .failed (s.raise (.invalidAddress a .read)) :=
  if_pos h

theorem memWrite_reserved (h : a < s.cfg.reservedLimit) (v : Byte) :
    memWrite a v s = .failed (s.raise (.invalidAddress a .write)) :=
  if_pos h

variable (h : ¬ a < s.cfg.reservedLimit) (hp : s.peripheralAt a = some p)
include h hp

/-- The device answers a read of its range, or the read fails; the access is logged first. -/
theorem memRead_claimed :
    memRead a s = (Config.readAnswer p.device (s.deviceHistory p.device) a).elim
      (.failed ((s.logAccess { device := p.device, addr := a, kind := .read }).raise (.peripheralReadError a)))
      fun b => .done b (s.logAccess { device := p.device, addr := a, kind := .read }) := by
  cases hb : Config.readAnswer p.device (s.deviceHistory p.device) a <;> simp [memRead, h, hp, hb]

/-- The device accepts a write to its range, or the write fails; the access is logged first. -/
theorem memWrite_claimed (v : Byte) :
    memWrite a v s =
      if Config.writeAnswer p.device (s.deviceHistory p.device) a v = true then
        .done () (s.logAccess { device := p.device, addr := a, kind := .write v })
      else
        .failed ((s.logAccess { device := p.device, addr := a, kind := .write v }).raise (.peripheralWriteError a v)) := by
  simp only [memWrite, h, hp, if_false]

end

/-! ### The Loader (R53) -/

/-- An address no byte of the data falls on keeps its value. -/
theorem State.peek_loadBytes_other {s : State} (h : s.ram.wf = true) {a b : Addr} {data : List Byte}
    (hb : ∀ k < data.length, b ≠ a + BitVec.ofNat 16 k) : (s.loadBytes a data).peek b = s.peek b := by
  induction data generalizing s a with
  | nil => rfl
  | cons v rest ih =>
    have hhead : b ≠ a := by simpa using hb 0 (by simp)
    have htail : ∀ k < rest.length, b ≠ a + 1 + BitVec.ofNat 16 k := by
      intro k hk
      have := hb (k + 1) (by simpa using hk)
      bv_omega
    calc ((s.poke a v).loadBytes (a + 1) rest).peek b
      _ = (s.poke a v).peek b := ih (State.wf_poke h a v) htail
      _ = s.peek b := State.peek_poke_other h v hhead

/-- A byte of the data is at its address, unless one 65536 places later falls there too: each byte is written once the
bytes before it are, and the fewer than 65536 after it fall elsewhere. -/
theorem State.peek_loadBytes_getElem {s : State} (h : s.ram.wf = true) (a : Addr) {data : List Byte} {k : Nat}
    (hk : k < data.length) (hlast : data.length - k ≤ 65536) :
    (s.loadBytes a data).peek (a + BitVec.ofNat 16 k) = data[k] := by
  induction data generalizing s a k with
  | nil => simp at hk
  | cons v rest ih =>
    have hwf := State.wf_poke h a v
    cases k with
    | zero =>
      have hafter : ∀ j < rest.length, a + BitVec.ofNat 16 0 ≠ a + 1 + BitVec.ofNat 16 j := by
        intro j hj
        rw [List.length_cons] at hlast
        bv_omega
      calc ((s.poke a v).loadBytes (a + 1) rest).peek (a + BitVec.ofNat 16 0)
        _ = (s.poke a v).peek (a + BitVec.ofNat 16 0) := State.peek_loadBytes_other hwf hafter
        _ = v := by simpa using State.peek_poke_same h a v
    | succ k =>
      have haddr : a + BitVec.ofNat 16 (k + 1) = a + 1 + BitVec.ofNat 16 k := by bv_omega
      rw [haddr]
      exact ih hwf (a + 1) (by simpa using hk) (by simpa using hlast)

end Sys2Proof.Machine

open Sys2Proof Sys2Proof.Machine

/-- Settles O11, by induction on the list of ranges. -/
theorem wellFormedMeansDisjointRanges : Obligations.WellFormedMeansDisjointRanges :=
  fun c => peripheralsWellFormed_iff c.peripherals

/-- Settles O14, by induction on the data. -/
theorem loaderWritesTheBytes : Obligations.LoaderWritesTheBytes := fun s a data h =>
  ⟨fun _ hk hlast => State.peek_loadBytes_getElem h a hk hlast, fun _ hb => State.peek_loadBytes_other h hb,
    State.loadBytes_frame s a data⟩

/-- Settles O15: one case of the dispatch per clause. -/
theorem busReadDispatch : Obligations.BusReadDispatch := by
  intro s a
  refine ⟨memRead_reserved, fun hlimit hform p hp hfirst hlast => ⟨_, rfl, ?_⟩, fun hlimit hnone => ?_⟩
  · rw [memRead_claimed hlimit (State.peripheralAt_of_covers hform hp ⟨hfirst, hlast⟩)]
    cases Config.readAnswer p.device (s.deviceHistory p.device) a <;> rfl
  · exact memRead_plain ⟨hlimit, State.peripheralAt_eq_none.mpr hnone⟩

/-- Settles O16: one case of the dispatch per clause. -/
theorem busWriteDispatch : Obligations.BusWriteDispatch := by
  intro s a v hwf
  refine ⟨fun hlimit => memWrite_reserved hlimit v, fun hlimit hform p hp hfirst hlast => ⟨_, rfl, ?_⟩,
    fun hlimit hnone => ⟨(s.poke a v).ram, ?_, State.wf_poke hwf a v, State.peek_poke_same hwf a v,
      fun _ hb => State.peek_poke_other hwf v hb⟩⟩
  · rw [memWrite_claimed hlimit (State.peripheralAt_of_covers hform hp ⟨hfirst, hlast⟩)]
    split_ifs <;> rfl
  · exact memWrite_plain ⟨hlimit, State.peripheralAt_eq_none.mpr hnone⟩ v
end

section
/-! PROOF. Every step keeps the invariant (20_memory R50, R55, 70_reset R363): no part of an instruction takes RAM out of
its canonical form or logs an access outside its device's ranges, and a whole instruction costs between 2 and 8 cycles. -/

namespace Sys2Proof.Machine

/-! ### What a part of an instruction may do -/

/-- A logged access lies in a range bound to its device (R55). -/
def State.OwnsAccess (s : State) (e : PeripheralAccess) : Prop :=
  ∃ p ∈ s.cfg.peripherals, p.device = e.device ∧ p.Covers e.addr

/-- What a part of an instruction before its finalize may make of `s`: registers, flags and status are free; RAM keeps its
canonical form, the history only grows, by accesses in their device's ranges; counters and configuration stay. -/
structure WithinStep (s t : State) : Prop where
  cfg : t.cfg = s.cfg
  resetDone : t.resetDone = s.resetDone
  cycles : t.cycles = s.cycles
  steps : t.steps = s.steps
  ramForm : s.ram.wf = true → t.ram.wf = true
  logGrows : ∃ new, t.periphLog = new ++ s.periphLog ∧ ∀ e ∈ new, s.OwnsAccess e

theorem WithinStep.trans {s t u : State} (h : WithinStep s t) (g : WithinStep t u) : WithinStep s u where
  cfg := g.cfg.trans h.cfg
  resetDone := g.resetDone.trans h.resetDone
  cycles := g.cycles.trans h.cycles
  steps := g.steps.trans h.steps
  ramForm := g.ramForm ∘ h.ramForm
  logGrows := by
    obtain ⟨new, hlog, hown⟩ := h.logGrows
    obtain ⟨new', hlog', hown'⟩ := g.logGrows
    refine ⟨new' ++ new, by rw [hlog', hlog, List.append_assoc], fun e he => ?_⟩
    obtain he | he := List.mem_append.mp he
    · obtain ⟨p, hp, hrange⟩ := hown' e he
      exact ⟨p, h.cfg ▸ hp, hrange⟩
    · exact hown e he

/-- `t` is `s` but for the registers, the flags and the status. -/
def SameButRegisters (s t : State) : Prop :=
  t = { s with a := t.a, x := t.x, y := t.y, sp := t.sp, pc := t.pc, p := t.p, status := t.status }

theorem SameButRegisters.withinStep {s t : State} (h : SameButRegisters s t) : WithinStep s t := by
  rw [h]
  exact ⟨rfl, rfl, rfl, rfl, id, [], rfl, by simp⟩

theorem WithinStep.refl (s : State) : WithinStep s s := SameButRegisters.withinStep rfl

theorem withinStep_poke (s : State) (a : Addr) (v : Byte) : WithinStep s (s.poke a v) :=
  ⟨rfl, rfl, rfl, rfl, fun h => State.wf_poke h a v, [], rfl, by simp⟩

/-- Logging an access for the peripheral that claims its address. -/
theorem withinStep_logAccess {s : State} {a : Addr} {p : Peripheral} (h : s.peripheralAt a = some p) (kind : AccessKind) :
    WithinStep s (s.logAccess { device := p.device, addr := a, kind := kind }) := by
  obtain ⟨hmem, hcovers⟩ := State.covers_of_peripheralAt h
  refine ⟨rfl, rfl, rfl, rfl, id, [_], rfl, fun e he => ?_⟩
  rw [List.mem_singleton.mp he]
  exact ⟨p, hmem, rfl, hcovers⟩

/-! ### The rule for sequences -/

/-- If `r` is done from `s`, it stayed within a step and its value is as `post` says. -/
def Run.Within {α : Type} (s : State) (post : α → Prop) (r : Run α) : Prop :=
  ∀ v t, r = .done v t → WithinStep s t ∧ post v

section
variable {α β : Type} {s t : State} {post : α → Prop} {post' : β → Prop}

/-- A last part that changes registers only. -/
theorem Run.Within.done {v : α} (hv : post v) (h : SameButRegisters s t := by exact rfl) :
    (Run.done v t).Within s post := by
  rintro _ _ ⟨⟩
  exact ⟨h.withinStep, hv⟩

theorem Run.Within.failed (f : Fault) : (Run.failed f).Within s post := by
  rintro _ _ ⟨⟩

/-- A first part that changes registers only. -/
theorem Run.Within.after {r : Run α} (hr : r.Within t post) (h : SameButRegisters s t := by exact rfl) :
    r.Within s post := by
  intro v u hu
  obtain ⟨htu, hv⟩ := hr v u hu
  exact ⟨h.withinStep.trans htu, hv⟩

theorem Run.Within.andThen {r : Run α} {k : α → State → Run β} (hr : r.Within s post)
    (hk : ∀ v u, (k v u).Within u post') : (r.andThen k).Within s post' := by
  intro w t h
  obtain ⟨v, u, hu, ht⟩ := Run.andThen_eq_done.mp h
  obtain ⟨hsu, -⟩ := hr v u hu
  obtain ⟨hut, hw⟩ := hk v u w t ht
  exact ⟨hsu.trans hut, hw⟩

theorem withEa_within {mode : Mode} {fr : Fragment} {f : Addr → Run α} (h : ∀ a, (f a).Within s post) :
    (withEa mode fr s f).Within s post := by
  intro v t ht
  obtain ⟨a, -, ha⟩ := withEa_done.mp ht
  exact h a v t ha

end

/-! ### The shared operations -/

/-- Nothing is asked of a value. -/
abbrev anyValue {α : Type} (_ : α) : Prop := True

theorem memRead_within (a : Addr) (s : State) : (memRead a s).Within s anyValue := by
  intro b t h
  obtain ⟨-, ⟨-, -, rfl⟩ | ⟨p, hp, -, rfl⟩⟩ := memRead_done h
  · exact ⟨.refl _, trivial⟩
  · exact ⟨withinStep_logAccess hp _, trivial⟩

theorem memWrite_within (a : Addr) (v : Byte) (s : State) : (memWrite a v s).Within s anyValue := by
  intro x t h
  obtain ⟨-, ⟨-, rfl⟩ | ⟨p, hp, -, rfl⟩⟩ := memWrite_done h
  · exact ⟨withinStep_poke _ _ _, trivial⟩
  · exact ⟨withinStep_logAccess hp _, trivial⟩

theorem readPair_within (lo hi : Addr) (s : State) : (readPair lo hi s).Within s anyValue :=
  (memRead_within lo s).andThen fun _ u => (memRead_within hi u).andThen fun _ _ => .done trivial

theorem fetch_within (s : State) : (fetch s).Within s anyValue :=
  (memRead_within s.pc s).andThen fun _ _ => .done trivial

theorem push_within (v : Byte) (s : State) : (push v s).Within s anyValue :=
  (memWrite_within _ v s).andThen fun _ _ => .done trivial

theorem pull_within (s : State) : (pull s).Within s anyValue :=
  .after (memRead_within _ (s.setSp (s.sp + 1)))

theorem pushPair_within (v : Addr) (s : State) : (pushPair v s).Within s anyValue :=
  (push_within _ s).andThen fun _ u => push_within _ u

theorem pullPair_within (s : State) : (pullPair s).Within s anyValue :=
  (pull_within s).andThen fun _ u => (pull_within u).andThen fun _ _ => .done trivial

theorem brkEntry_within (s : State) : (brkEntry s).Within s anyValue :=
  (pushPair_within s.pc s).andThen fun _ u =>
  (push_within u.p.pushed u).andThen fun _ w =>
  .after <| (readPair_within _ _ (w.setP { w.p with i := true })).andThen fun _ _ => .done trivial

theorem returnFromBreak_within (s : State) : (returnFromBreak s).Within s anyValue :=
  (pull_within s).andThen fun b u =>
  .after <| (pullPair_within (u.setP (Flags.ofByte b))).andThen fun _ _ => .done trivial

theorem resolve_within (mode : Mode) (arg : Addr) (s : State) : (resolve mode arg s).Within s anyValue := by
  cases mode
  case indirect | indirectX | indirectY =>
    exact (readPair_within _ _ s).andThen fun _ _ => .done trivial
  all_goals exact .done trivial

theorem readOperand_within (mode : Mode) (fr : Fragment) (s : State) : (readOperand mode fr s).Within s anyValue := by
  unfold readOperand
  split
  · exact .done trivial
  · exact withEa_within fun a => memRead_within a s

theorem fetchInstr_within (s : State) : (fetchInstr s).Within s anyValue := by
  refine (fetch_within s).andThen fun opcode u => ?_
  cases dispatchMap opcode with
  | unassigned => exact .failed _
  | noOperand i => exact .done trivial
  | byteOperand build => exact (fetch_within u).andThen fun _ _ => .done trivial
  | wordOperand build =>
    exact (fetch_within u).andThen fun _ w => (fetch_within w).andThen fun _ _ => .done trivial

/-! ### The behaviours, with the cycles each adds -/

/-- Whenever the behaviour is done it stayed within a step and adds at most `n` cycles. -/
def Behaviour.Within (n : Nat) (b : Behaviour) : Prop := ∀ mode fr s, (b mode fr s).Within s (· ≤ n)

theorem readThen_within {f : Byte → State → State} (h : ∀ m u, SameButRegisters u (f m u)) :
    Behaviour.Within 0 (readThen f) := fun mode fr s =>
  (readOperand_within mode fr s).andThen fun m u => .done le_rfl (h m u)

theorem addWith_within (f : Byte → Byte) : Behaviour.Within 0 (addWith f) := by
  intro mode fr s k t h
  obtain ⟨m, u, hread, -, rfl, rfl⟩ := addWith_done.mp h
  obtain ⟨hu, -⟩ := readOperand_within mode fr s m u hread
  exact ⟨hu.trans (SameButRegisters.withinStep rfl), le_rfl⟩

theorem storeOf_within (value : State → Byte) : Behaviour.Within 0 (storeOf value) := fun _ _ s =>
  withEa_within fun a => (memWrite_within a _ s).andThen fun _ _ => .done le_rfl

theorem modifyBy_within (f : Byte → Byte) : Behaviour.Within 0 (modifyBy f) := fun _ _ s =>
  withEa_within fun a => (memRead_within a s).andThen fun v u =>
    (memWrite_within a (f v) u).andThen fun _ _ => .done le_rfl

theorem shiftBy_within (op : Byte → Bool → ShiftResult) : Behaviour.Within 0 (shiftBy op) := by
  intro mode fr s
  unfold shiftBy
  split
  · exact .done le_rfl
  · exact withEa_within fun a => (memRead_within a s).andThen fun v u =>
      (memWrite_within a _ u).andThen fun _ _ => .done le_rfl

theorem registerOnly_within {f : State → State} (h : ∀ u, SameButRegisters u (f u)) :
    Behaviour.Within 0 (registerOnly f) := fun _ _ s => .done le_rfl (h s)

/-- A branch alone adds cycles of its own: at most 2 (R128). -/
theorem branchIf_within (cond : Flags → Bool) : Behaviour.Within 2 (branchIf cond) := by
  intro mode fr s k t h
  obtain ⟨-, rfl, hk⟩ | ⟨-, rfl, hk⟩ := branchIf_done.mp h
  · exact ⟨SameButRegisters.withinStep rfl, by split at hk <;> omega⟩
  · exact ⟨.refl _, by omega⟩

theorem behaveBrk_within : Behaviour.Within 0 behaveBrk := by
  intro mode fr s
  unfold behaveBrk
  dsimp only
  split
  · exact .done le_rfl
  · exact .after <| (brkEntry_within (s.setPc (s.pc + 1))).andThen fun _ _ => .done le_rfl

/-- The most cycles a mnemonic's behaviour adds to base and page penalty (R128, R129). -/
def extraBound (mn : Mnemonic) : Nat := if mn ∈ branchMnemonics then 2 else 0

/-- One case per shape of behaviour, and per behaviour that has none. -/
theorem behaviourOf_within (mn : Mnemonic) : Behaviour.Within (extraBound mn) (behaviourOf mn) := by
  cases mn <;> simp only [behaviourOf]
  case lda | ldx | ldy | and | ora | eor | cmp | cpx | cpy | bit => exact readThen_within fun _ _ => rfl
  case adc | sbc => exact addWith_within _
  case sta | stx | sty => exact storeOf_within _
  case inc | dec => exact modifyBy_within _
  case asl | lsr | rol | ror => exact shiftBy_within _
  case tax | tay | txa | tya | tsx | txs | inx | iny | dex | dey | clc | sec | cli | sei | cld | sed | clv | nop =>
    exact registerOnly_within fun _ => rfl
  case bpl | bmi | bvc | bvs | bcc | bcs | bne | beq => exact branchIf_within _
  case brk => exact behaveBrk_within
  case jmp => exact fun _ _ _ => withEa_within fun _ => .done le_rfl
  case jsr => exact fun _ _ s => (pushPair_within _ s).andThen fun _ _ => .done le_rfl
  case rts => exact fun _ _ s => (pullPair_within s).andThen fun _ _ => .done le_rfl
  case rti => exact fun _ _ s => (returnFromBreak_within s).andThen fun _ _ => .done le_rfl
  case pha | php => exact fun _ _ s => (push_within _ s).andThen fun _ _ => .done le_rfl
  case pla | plp => exact fun _ _ s => (pull_within s).andThen fun _ _ => .done le_rfl

/-! ### The whole instruction -/

theorem addrPenalty_le_one (scope : PenaltyScope) (mn : Mnemonic) (cross : Bool) : addrPenalty scope mn cross ≤ 1 := by
  unfold addrPenalty
  split <;> omega

/-- Base and behaviour together leave room for the page penalty below 8 (R84, R129). -/
theorem Instr.base_bounds (i : Instr) : 2 ≤ i.variant.base ∧ i.variant.base + extraBound i.mnemonic ≤ 7 := by
  cases i <;> simp [Instr.variant, Instr.mnemonic, extraBound, branchMnemonics]

/-- A completed instruction is a part within the step, and then a cost of 2 to 8 cycles (R107, R129, R363). -/
theorem exec_within {i : Instr} {s t : State} (h : exec i s = .next t) :
    ∃ u cost, WithinStep s u ∧ 2 ≤ cost ∧ cost ≤ 8 ∧ t = u.finalize cost := by
  rw [exec_eq_execute] at h
  obtain ⟨r, u, extra, w, hresolve, hbehave, rfl⟩ := execute_eq_next.mp h
  obtain ⟨hu, -⟩ := resolve_within _ _ _ _ _ hresolve
  obtain ⟨hw, hextra⟩ := behaviourOf_within _ _ _ _ _ _ hbehave
  obtain ⟨hlow, hhigh⟩ := Instr.base_bounds i
  have hpenalty : (fragmentOf i s r).extra ≤ 1 := addrPenalty_le_one _ _ _
  exact ⟨w, _, hu.trans hw, by omega, by omega, rfl⟩

/-- What a step that answers a next state did (R100, R131, R132): nothing to a stopped machine, a run-control stop, or the
fetch and the run of one instruction. -/
theorem step_eq_next {s t : State} (h : step s = .next t) :
    s.cfg.wellFormed = true ∧ s.resetDone = true ∧
      ((∃ reason, s.status = .stopped reason ∧ t = s) ∨
       (s.status = .running ∧ ∃ reason, checkRunControl s = some reason ∧ t = s.setStatus (.stopped reason)) ∨
       (s.status = .running ∧ checkRunControl s = none ∧ ∃ i u, fetchInstr s = .done i u ∧ exec i u = .next t)) := by
  unfold step at h
  split at h
  · cases h
  split at h
  · cases h
  next hform hreset =>
  refine ⟨by simpa using hform, by simpa using hreset, ?_⟩
  split at h
  · cases h
    exact .inl ⟨_, ‹_›, rfl⟩
  · cases h
  · next hrunning =>
    split at h
    · cases h
      exact .inr (.inl ⟨hrunning, _, ‹_›, rfl⟩)
    · next hcheck =>
      refine .inr (.inr ⟨hrunning, hcheck, ?_⟩)
      unfold stepInstr at h
      split at h
      · exact ⟨_, _, ‹_›, h⟩
      · cases h

/-! ### The invariant -/

theorem State.Inv.within {s t : State} (h : s.Inv) (hst : WithinStep s t) : t.Inv where
  ramForm := hst.ramForm h.ramForm
  costLow := by rw [hst.steps, hst.cycles]; exact h.costLow
  costHigh := by rw [hst.steps, hst.cycles]; exact h.costHigh
  logOwned := by
    obtain ⟨new, hlog, hown⟩ := hst.logGrows
    rw [hlog, hst.cfg]
    exact List.forall_mem_append.mpr ⟨hown, h.logOwned⟩

theorem State.Inv.finalize {s : State} (h : s.Inv) {cost : Nat} (hlow : 2 ≤ cost) (hhigh : cost ≤ 8) :
    (s.finalize cost).Inv where
  ramForm := h.ramForm
  costLow := by
    have := h.costLow
    rw [State.finalize_steps, State.finalize_cycles]
    omega
  costHigh := by
    have := h.costHigh
    rw [State.finalize_steps, State.finalize_cycles]
    omega
  logOwned := h.logOwned

end Sys2Proof.Machine

open Sys2Proof.Machine

/-- Settles O59: a step leaves the state, changes its status, or runs one instruction: fetch and behaviour stay within the
step, and finalizing adds 2 to 8 cycles and one step. -/
theorem stepKeepsInvariant : Obligations.StepKeepsInvariant := by
  intro s t hinv h
  obtain ⟨-, -, ⟨reason, -, rfl⟩ | ⟨-, reason, -, rfl⟩ | ⟨-, -, i, u, hfetch, hexec⟩⟩ := step_eq_next h
  · exact hinv
  · exact hinv.within (SameButRegisters.withinStep rfl)
  · obtain ⟨hu, -⟩ := fetchInstr_within s i u hfetch
    obtain ⟨w, cost, hw, hlow, hhigh, rfl⟩ := exec_within hexec
    exact ((hinv.within hu).within hw).finalize hlow hhigh
end

section
/-! PROOF. Encoding (30_encoding): the dispatch map and the catalog say the same of every opcode, so `decode` inverts
`encode`; the opcode map is the table of R84; the lookups of R87. -/

namespace Sys2Proof

/-! ### The dispatch map and the catalog agree (R84) -/

/-- The operand bytes, low byte first (R83). -/
def Operand.bytes : Operand → List Byte
  | .none => []
  | .byte b => [b]
  | .word w => [loByte w, hiByte w]

theorem encode_eq_cons (i : Instr) : encode i = i.variant.opcode :: i.operand.bytes := by
  unfold encode
  cases i.operand <;> rfl

/-- The instruction a slot builds of an operand, where the operand is of the slot's kind. -/
def Slot.fill : Slot → Operand → Option Instr
  | .noOperand i, .none => some i
  | .byteOperand build, .byte b => some (build b)
  | .wordOperand build, .word w => some (build w)
  | _, _ => none

/-- All that a slot builds has this opcode in the catalog, and the operand it was built of. -/
inductive Slot.Encodes (opcode : Byte) : Slot → Prop
  | unassigned : Encodes opcode .unassigned
  | noOperand {i : Instr} : i.variant.opcode = opcode → i.operand = .none → Encodes opcode (.noOperand i)
  | byteOperand {build : Byte → Instr} : (∀ b, (build b).variant.opcode = opcode) →
      (∀ b, (build b).operand = .byte b) → Encodes opcode (.byteOperand build)
  | wordOperand {build : Addr → Instr} : (∀ w, (build w).variant.opcode = opcode) →
      (∀ w, (build w).operand = .word w) → Encodes opcode (.wordOperand build)

theorem Slot.Encodes.of_fill {opcode : Byte} {slot : Slot} (h : slot.Encodes opcode) {o : Operand} {i : Instr}
    (hfill : slot.fill o = some i) : i.variant.opcode = opcode ∧ i.operand = o := by
  cases h <;> cases o <;> cases hfill
  case noOperand.none.refl hop ho => exact ⟨hop, ho⟩
  case byteOperand.byte.refl hop ho b => exact ⟨hop b, ho b⟩
  case wordOperand.word.refl hop ho w => exact ⟨hop w, ho w⟩

/-- The map's 256 slots, one by one. -/
theorem dispatchMap_encodes (opcode : Byte) : (dispatchMap opcode).Encodes opcode := by
  obtain ⟨n, hn, rfl⟩ : ∃ n < 256, opcode = BitVec.ofNat 8 n := ⟨opcode.toNat, opcode.isLt, by simp⟩
  interval_cases n <;> constructor <;> intros <;> rfl

theorem dispatchMap_fill_operand (i : Instr) : (dispatchMap i.variant.opcode).fill i.operand = some i := by
  cases i <;> dsimp only [Instr.variant, Instr.operand] <;> rfl

/-- The map fills an opcode's slot with an operand exactly when the catalog says so of the instruction. -/
theorem dispatchMap_fill_eq_some_iff {opcode : Byte} {o : Operand} {i : Instr} :
    (dispatchMap opcode).fill o = some i ↔ opcode = i.variant.opcode ∧ o = i.operand := by
  constructor
  · intro h
    obtain ⟨hop, ho⟩ := (dispatchMap_encodes opcode).of_fill h
    exact ⟨hop.symm, ho.symm⟩
  · rintro ⟨rfl, rfl⟩
    exact dispatchMap_fill_operand i

/-! ### Decoding (R80, R81, R83) -/

theorem decode_of_fill {opcode : Byte} {o : Operand} {i : Instr} (rest : List Byte)
    (h : (dispatchMap opcode).fill o = some i) : decode (opcode :: (o.bytes ++ rest)) = .instr i rest := by
  cases hslot : dispatchMap opcode <;> rw [hslot] at h <;> cases o <;> cases h
  all_goals simp [decode, hslot, Operand.bytes]

theorem exists_fill_of_decode {bytes rest : List Byte} {i : Instr} (h : decode bytes = .instr i rest) :
    ∃ opcode o, bytes = opcode :: (o.bytes ++ rest) ∧ (dispatchMap opcode).fill o = some i := by
  cases bytes with
  | nil => cases h
  | cons opcode tail =>
    refine ⟨opcode, ?_⟩
    simp only [decode] at h
    split at h <;> cases h
    next hslot => exact ⟨.none, rfl, by rw [hslot]; rfl⟩
    next build b hslot => exact ⟨.byte b, rfl, by rw [hslot]; rfl⟩
    next build lo hi hslot => exact ⟨.word (hiLo hi lo), by simp [Operand.bytes], by rw [hslot]; rfl⟩

/-- `decode` reads `i` exactly off the encoding of `i`. -/
theorem decode_eq_instr_iff {bytes rest : List Byte} {i : Instr} :
    decode bytes = .instr i rest ↔ bytes = encode i ++ rest := by
  rw [encode_eq_cons, List.cons_append]
  constructor
  · intro h
    obtain ⟨opcode, o, rfl, hfill⟩ := exists_fill_of_decode h
    obtain ⟨rfl, rfl⟩ := dispatchMap_fill_eq_some_iff.mp hfill
    rfl
  · rintro rfl
    exact decode_of_fill rest (dispatchMap_fill_operand i)

/-! ### The catalog against the table of R84 -/

theorem Slot.exists_fill_of_sample {slot : Slot} {i : Instr} (h : slot.sample = some i) : ∃ o, slot.fill o = some i := by
  cases slot with
  | unassigned => cases h
  | noOperand => exact ⟨.none, h⟩
  | byteOperand => exact ⟨.byte 0, h⟩
  | wordOperand => exact ⟨.word 0, h⟩

theorem lookupByOpcode_variant (i : Instr) : lookupByOpcode i.variant.opcode = some i.variant := by
  cases i <;> dsimp only [Instr.variant] <;> rfl

/-- The entries of `lookup_by_opcode` are the variants of the instructions, each under its own opcode. -/
theorem lookupByOpcode_eq_some_iff {opcode : Byte} {v : Variant} :
    lookupByOpcode opcode = some v ↔ v.opcode = opcode ∧ ∃ i : Instr, i.variant = v := by
  constructor
  · intro h
    obtain ⟨i, hsample, rfl⟩ := Option.map_eq_some_iff.mp h
    obtain ⟨o, hfill⟩ := Slot.exists_fill_of_sample hsample
    exact ⟨((dispatchMap_fill_eq_some_iff.mp hfill).1).symm, i, rfl⟩
  · rintro ⟨rfl, i, rfl⟩
    exact lookupByOpcode_variant i

theorem mem_catalog_iff {v : Variant} : v ∈ catalog ↔ ∃ i : Instr, i.variant = v := by
  simp only [catalog, List.mem_filterMap, List.mem_range, lookupByOpcode_eq_some_iff]
  constructor
  · rintro ⟨n, -, -, hv⟩
    exact hv
  · intro hv
    exact ⟨v.opcode.toNat, v.opcode.isLt, by simp, hv⟩

/-- A variant as a row of R84: opcode byte, mnemonic, mode, length, base cycle count. -/
def Variant.row (v : Variant) : Nat × Mnemonic × Mode × Nat × Nat :=
  (v.opcode.toNat, v.mnemonic, v.mode, v.mode.length, v.base)

/-- The catalog, by opcode, is the table of R84, by mnemonic, in another order. -/
theorem catalog_map_row_perm : (catalog.map Variant.row).Perm Claims.opcodeRows := by
  decide +kernel

theorem Variant.row_injective {v w : Variant} (h : v.row = w.row) : v = w := by
  cases v
  cases w
  simp only [Variant.row, Prod.mk.injEq, BitVec.toNat_inj] at h
  obtain ⟨rfl, rfl, rfl, -, rfl⟩ := h
  rfl

theorem row_mem_opcodeRows_iff {v : Variant} : v.row ∈ Claims.opcodeRows ↔ v ∈ catalog := by
  rw [← catalog_map_row_perm.mem_iff, List.mem_map_of_injective fun _ _ => Variant.row_injective]

/-! ### Lookup by name and mode (R87) -/

/-- The catalog's variants of a mnemonic. -/
def variantsOf (name : Mnemonic) : List Variant := catalog.filter fun v => v.mnemonic = name

theorem mem_variantsOf_iff {name : Mnemonic} {v : Variant} : v ∈ variantsOf name ↔ v ∈ catalog ∧ v.mnemonic = name := by
  simp [variantsOf]

/-- A mnemonic and a mode name at most one variant. -/
theorem nodup_catalog_names : (catalog.map fun v => (v.mnemonic, v.mode)).Nodup := by
  decide +kernel

theorem eq_of_mem_catalog_of_names {v w : Variant} (hv : v ∈ catalog) (hw : w ∈ catalog)
    (hname : v.mnemonic = w.mnemonic) (hmode : v.mode = w.mode) : v = w :=
  List.inj_on_of_nodup_map nodup_catalog_names hv hw (Prod.ext hname hmode)

theorem nodup_variantsOf (name : Mnemonic) : (variantsOf name).Nodup :=
  nodup_catalog_names.of_map.filter _

/-- A list of variants is one variant when that is the name's only one in the catalog. -/
theorem variantsOf_eq_singleton_iff {name : Mnemonic} {only : Variant} :
    variantsOf name = [only] ↔ ∀ v, v ∈ catalog ∧ v.mnemonic = name ↔ v = only := by
  rw [← List.perm_singleton, List.perm_ext_iff_of_nodup (nodup_variantsOf name) (List.nodup_singleton only)]
  simp only [mem_variantsOf_iff, List.mem_singleton]

theorem find?_variantsOf_eq_some_iff {name : Mnemonic} {mode : Mode} {v : Variant} :
    (variantsOf name).find? (fun u => u.mode = mode) = some v ↔
      v ∈ catalog ∧ v.mnemonic = name ∧ v.mode = mode := by
  have found {w : Variant} (h : (variantsOf name).find? (fun u => u.mode = mode) = some w) :
      w ∈ catalog ∧ w.mnemonic = name ∧ w.mode = mode := by
    obtain ⟨hw, hname⟩ := mem_variantsOf_iff.mp (List.mem_of_find?_eq_some h)
    exact ⟨hw, hname, by simpa using List.find?_some h⟩
  refine ⟨found, ?_⟩
  rintro ⟨hv, hname, hmode⟩
  have hsome : ((variantsOf name).find? fun u => u.mode = mode).isSome :=
    List.find?_isSome.mpr ⟨v, mem_variantsOf_iff.mpr ⟨hv, hname⟩, decide_eq_true hmode⟩
  obtain ⟨w, hfind⟩ := Option.isSome_iff_exists.mp hsome
  obtain ⟨hw, hwname, hwmode⟩ := found hfind
  rw [hfind, eq_of_mem_catalog_of_names hw hv (hwname.trans hname.symm) (hwmode.trans hmode.symm)]

/-- The two cases of the lookup: a name with exactly one variant, and a search by mode. -/
theorem lookupByNameAndMode_cases (name : Mnemonic) (mode : Mode) :
    (∃ only, (∀ v, v ∈ catalog ∧ v.mnemonic = name ↔ v = only) ∧ lookupByNameAndMode name mode = some only) ∨
    (¬ (∃ only, ∀ v, v ∈ catalog ∧ v.mnemonic = name ↔ v = only) ∧
      ∀ v, lookupByNameAndMode name mode = some v ↔ v ∈ catalog ∧ v.mnemonic = name ∧ v.mode = mode) := by
  simp only [← variantsOf_eq_singleton_iff, ← find?_variantsOf_eq_some_iff]
  unfold lookupByNameAndMode
  split
  next only h => exact .inl ⟨only, h, rfl⟩
  next h => exact .inr ⟨fun ⟨only, hone⟩ => h only hone, fun v => Iff.rfl⟩

end Sys2Proof

open Sys2Proof

/-- Settles O2: the catalog's opcode leads the map back to the instruction's slot, which its operand fills. -/
theorem decodeOfEncodeIsIdentity : Obligations.DecodeOfEncodeIsIdentity := fun _ _ => decode_eq_instr_iff.mpr rfl

/-- Settles O3: what a slot of the map builds has the slot's opcode in the catalog, and the operand bytes read. -/
theorem decodedBytesAreTheEncoding : Obligations.DecodedBytesAreTheEncoding := fun _ _ _ => decode_eq_instr_iff.mp

/-- Settles O4: the entries are the catalog's variants, whose rows are those of R84; the bytes without an entry are
counted off. -/
theorem opcodeMapIsR84 : Obligations.OpcodeMapIsR84 := by
  refine ⟨fun b v => ?_, by decide +kernel, lookupByOpcode_variant⟩
  rw [lookupByOpcode_eq_some_iff, ← mem_catalog_iff, ← row_mem_opcodeRows_iff]
  refine and_congr_right ?_
  rintro rfl
  rfl

/-- Settles O5, in the two cases of the lookup: the catalog names each variant once by mnemonic and mode. -/
theorem nameAndModeLookup : Obligations.NameAndModeLookup := by
  intro name mode
  obtain ⟨only, hone, hlookup⟩ | ⟨hmany, hlookup⟩ := lookupByNameAndMode_cases name mode
  · have only_of_named {v : Variant} (hv : v ∈ catalog) (hname : v.mnemonic = name) : v = only :=
      (hone v).mp ⟨hv, hname⟩
    rw [hlookup]
    refine ⟨?_, ?_, ?_, ?_⟩
    · rintro v ⟨⟩
      exact (hone only).mpr rfl
    · intro v hv hname _
      rw [only_of_named hv hname]
    · intro v hv hname _
      rw [only_of_named hv hname]
    · intro v hv w hw hvname hwname hne
      exact absurd ((only_of_named hv hvname).trans (only_of_named hw hwname).symm) hne
  · refine ⟨?_, ?_, ?_, ?_⟩
    · intro v h
      obtain ⟨hv, hname, -⟩ := (hlookup v).mp h
      exact ⟨hv, hname⟩
    · intro v hv hname hmode
      exact (hlookup v).mpr ⟨hv, hname, hmode⟩
    · intro v hv hname huniq
      refine absurd ⟨v, fun w => ⟨fun ⟨hw, hwname⟩ => huniq w hw hwname, ?_⟩⟩ hmany
      rintro rfl
      exact ⟨hv, hname⟩
    · intro _ _ _ _ _ _ _ hmode
      refine Option.eq_none_iff_forall_ne_some.mpr fun u h => ?_
      obtain ⟨hu, hname, hmode'⟩ := (hlookup u).mp h
      exact hmode u hu hname hmode'

/-- Settles O1: the decoder run on each word. -/
theorem sampleWordsDecode : Obligations.SampleWordsDecode := by
  unfold Obligations.SampleWordsDecode
  decide
end

section
/-! PROOF. The resolver and the operand read as numbers (40_sequencer R110 to R122). -/

namespace Sys2Proof

/-- The page of an address: its low byte cleared (R111). -/
theorem toNat_and_page (w : Addr) : (w &&& 0xFF00).toNat = w.toNat / 256 * 256 := by
  have hand : w &&& 0xFF00 = hiLo (hiByte w) 0 :=
    calc w &&& 0xFF00
      _ = hiLo (hiByte w) (loByte w) &&& hiLo 0xFF 0x00 := by rw [hiLo_hiByte_loByte]; rfl
      _ = hiLo (hiByte w &&& 0xFF) (loByte w &&& 0x00) := BitVec.and_append
      _ = hiLo (hiByte w) 0 := by rw [show (0xFF : Byte) = BitVec.allOnes 8 from rfl, BitVec.and_allOnes]; simp
  rw [hand, toNat_hiLo, toNat_hiByte]
  simp [Nat.mul_comm]

theorem ofNat_mod_65536 (n : Nat) : BitVec.ofNat 16 (n % 65536) = BitVec.ofNat 16 n := by
  apply BitVec.eq_of_toNat_eq
  rw [BitVec.toNat_ofNat, BitVec.toNat_ofNat, Nat.mod_mod]

/-- The low byte of a pair's number. -/
theorem pair_mod_256 (h l : Byte) : (256 * h.toNat + l.toNat) % 256 = l.toNat := by
  rw [Nat.mul_add_mod, Nat.mod_eq_of_lt l.isLt]

theorem loByte_zext16 (b : Byte) : loByte (zext16 b) = b := by
  apply BitVec.eq_of_toNat_eq
  rw [toNat_loByte, toNat_zext16, Nat.mod_eq_of_lt b.isLt]

end Sys2Proof

namespace Sys2Proof.Machine

open Claims

variable {s : State} {mode : Mode} {arg lo hi : Addr}

/-! ### Addresses as numbers -/

theorem State.zp_eq_ofNat {o : Byte} {n : Nat} (h : o.toNat = n % 256) : s.zp o = BitVec.ofNat 16 (zpAt s n) := by
  have hbase := s.cfg.zpBase.isLt
  apply BitVec.eq_of_toNat_eq
  rw [State.zp, toNat_or_zext16 _ _ (by rw [toNat_and_page, Nat.mul_mod_left]), toNat_and_page, BitVec.toNat_ofNat, zpAt, h]
  omega

theorem nextInPage_eq_ofNat (w : Addr) :
    nextInPage w = BitVec.ofNat 16 (w.toNat / 256 * 256 + (w.toNat + 1) % 256) := by
  apply BitVec.eq_of_toNat_eq
  have := w.isLt
  have hlow : (loByte w + 1).toNat = (w.toNat + 1) % 256 := by simp
  rw [nextInPage, toNat_hiLo, toNat_hiByte, hlow, BitVec.toNat_ofNat]
  omega

/-- Indexing crosses a page iff the low byte carries (R110, R122). -/
theorem indexed_eq (base : Addr) (index : Byte) :
    indexed base index =
      ⟨some (BitVec.ofNat 16 (base.toNat + index.toNat)), decide (256 ≤ base.toNat % 256 + index.toNat)⟩ := by
  have hbase := base.isLt
  have hindex := index.isLt
  have hea : base + zext16 index = BitVec.ofNat 16 (base.toNat + index.toNat) := by
    apply BitVec.eq_of_toNat_eq
    rw [BitVec.toNat_add, toNat_zext16, BitVec.toNat_ofNat]
  have hcross : pageCrossed (base + zext16 index) base = decide (256 ≤ base.toNat % 256 + index.toNat) := by
    rw [Bool.eq_iff_iff, pageCrossed, bne_iff_ne, decide_eq_true_iff, ne_eq, ← BitVec.toNat_inj, toNat_hiByte,
      toNat_hiByte, BitVec.toNat_add, toNat_zext16]
    omega
  rw [← hea, ← hcross, indexed]

theorem ramAt_eq_peek (s : State) (n : Nat) : ramAt s n = (s.peek (BitVec.ofNat 16 n)).toNat := by
  rw [ramAt, State.peek, BitVec.toNat_ofNat]

/-- A pointer in RAM, low byte first. -/
theorem ramAt_pointer (s : State) (m n : Nat) :
    ramAt s m + 256 * ramAt s n = 256 * (s.peek (BitVec.ofNat 16 n)).toNat + (s.peek (BitVec.ofNat 16 m)).toNat := by
  rw [ramAt_eq_peek, ramAt_eq_peek, Nat.add_comm]

/-! ### The modes with and without pointer bytes -/

/-- A mode reads two pointer bytes or none (R112 to R118). -/
theorem pointerAt_cases (mode : Mode) (n : Nat) (s : State) :
    pointerAt mode n s = [] ∨ ∃ lo hi, pointerAt mode n s = [lo, hi] := by
  cases mode <;> simp [pointerAt]

/-- A mode without pointer bytes makes no access. -/
theorem resolve_of_no_pointer (h : pointerAt mode arg.toNat s = []) :
    resolve mode arg s =
      .done ⟨(eaNumber mode arg.toNat s).map (BitVec.ofNat 16), crossNumber mode arg.toNat s⟩ s := by
  cases mode <;> simp only [resolve, eaNumber, crossNumber, Option.map_some, Option.map_none]
  case indirect | indirectX | indirectY => simp [pointerAt] at h
  case zeroPage => rw [State.zp_eq_ofNat (toNat_loByte arg)]
  case zeroPageX => rw [State.zp_eq_ofNat (n := arg.toNat + s.x.toNat) (by simp)]
  case zeroPageY => rw [State.zp_eq_ofNat (n := arg.toNat + s.y.toNat) (by simp)]
  case absolute => simp
  case absoluteX | absoluteY => rw [indexed_eq, ofNat_mod_65536]

/-- A mode with pointer bytes reads them, low byte first, and takes the address from them. -/
theorem resolve_of_pointer (h : pointerAt mode arg.toNat s = [lo, hi]) :
    resolve mode arg s = (readPair lo hi s).andThen fun base t =>
      .done (if mode = .indirectY then indexed base t.y else ⟨some base, false⟩) t := by
  cases mode <;> simp only [pointerAt, List.cons.injEq, and_true, reduceCtorEq] at h <;> obtain ⟨rfl, rfl⟩ := h
  case indirect => simp [resolve, nextInPage_eq_ofNat]
  case indirectX =>
    rw [← State.zp_eq_ofNat (o := loByte arg + s.x) (by simp), ← State.zp_eq_ofNat (o := loByte arg + s.x + 1) (by simp)]
    rfl
  case indirectY =>
    rw [← State.zp_eq_ofNat (o := loByte arg) (by simp), ← State.zp_eq_ofNat (o := loByte arg + 1) (by simp)]
    rfl

/-- The address and crossing that two pointer bytes give, on any bus (R115 to R117). -/
theorem resolve_of_pointer_read {t u : State} {l h : Byte} (hpointer : pointerAt mode arg.toNat s = [lo, hi])
    (hlo : memRead lo s = .done l t) (hhi : memRead hi t = .done h u) :
    resolve mode arg s = .done (if mode = .indirectY
      then ⟨some (BitVec.ofNat 16 (256 * h.toNat + l.toNat + s.y.toNat)), decide (256 ≤ l.toNat + s.y.toNat)⟩
      else ⟨some (BitVec.ofNat 16 (256 * h.toNat + l.toNat)), false⟩) u := by
  have hy : u.y = s.y := by
    rw [(memRead_sameButLog hlo).trans (memRead_sameButLog hhi)]
  rw [resolve_of_pointer hpointer, readPair, hlo, Run.andThen_done, hhi]
  simp only [Run.andThen_done, indexed_eq, hy, toNat_hiLo, pair_mod_256, ← hiLo_eq_ofNat]

/-! ### Plain RAM -/

/-- With no peripheral and no reserved range every address is plain. -/
theorem State.ramOnly.plainAt (h : s.ramOnly) (a : Addr) : s.plainAt a := by
  obtain ⟨hlimit, hperipherals⟩ := h
  simp [State.plainAt, State.peripheralAt, hlimit, hperipherals]

/-- On plain RAM the resolver answers its rule's number and crossing, and changes nothing (R121). -/
theorem resolve_ramOnly (h : s.ramOnly) (mode : Mode) (arg : Addr) :
    resolve mode arg s =
      .done ⟨(eaNumber mode arg.toNat s).map (BitVec.ofNat 16), crossNumber mode arg.toNat s⟩ s := by
  obtain hnone | ⟨lo, hi, hpointer⟩ := pointerAt_cases mode arg.toNat s
  · exact resolve_of_no_pointer hnone
  rw [resolve_of_pointer_read hpointer (memRead_plain (h.plainAt lo)) (memRead_plain (h.plainAt hi))]
  cases mode <;> simp only [pointerAt, List.cons.injEq, and_true, reduceCtorEq] at hpointer <;>
    obtain ⟨rfl, rfl⟩ := hpointer
  case indirect | indirectX => simp [eaNumber, crossNumber, zpPointer, ramAt_pointer]
  case indirectY => simp only [eaNumber, crossNumber, zpPointer, ramAt_pointer, pair_mod_256, Option.map_some,
    reduceIte, ofNat_mod_65536]

/-! ### The operand (R119) -/

theorem operandIs_immediate {i : Instr} {b : Byte} (himm : i.mode = .immediate) (hb : i.operand = .byte b) :
    OperandIs i s b false s.periphLog := by
  refine ⟨⟨none, false⟩, s, s, by rw [himm]; rfl, readOperand_done.mpr (.inl ⟨himm, ?_, rfl⟩), rfl, rfl⟩
  simp only [fragmentOf, Instr.arg, hb, loByte_zext16]

theorem AddressIs.mode_ne_immediate {i : Instr} {a : Addr} {cross : Bool} {t : State} (h : AddressIs i s a cross t) :
    i.mode ≠ .immediate := by
  intro himm
  rw [AddressIs, himm] at h
  cases h

theorem operandIs_memory {i : Instr} {a : Addr} {cross : Bool} {t u : State} {m : Byte}
    (haddress : AddressIs i s a cross t) (hread : memRead a t = .done m u) : OperandIs i s m cross u.periphLog :=
  ⟨_, t, u, haddress, readOperand_done.mpr (.inr ⟨AddressIs.mode_ne_immediate haddress, a, rfl, hread⟩), rfl, rfl⟩

end Sys2Proof.Machine

open Sys2Proof Sys2Proof.Machine

/-- Settles O17: the modes without pointer bytes, all modes on plain RAM, and the pointer modes on any bus. -/
theorem resolverAddresses : Obligations.ResolverAddresses := by
  refine ⟨fun mode arg s h => ?_, fun _ _ _ _ _ _ _ _ _ => resolve_of_pointer_read⟩
  obtain hnone | hram := h
  · exact resolve_of_no_pointer hnone
  · exact resolve_ramOnly hram mode arg

/-- Settles O18: an immediate form reads no address, a memory form has one and reads it once. -/
theorem operandOfEachForm : Obligations.OperandOfEachForm := by
  intro i s
  refine ⟨fun _ => operandIs_immediate, fun _ _ _ _ _ => operandIs_memory, fun m n hram hn hm => ?_⟩
  have haddress : Claims.AddressIs i s (BitVec.ofNat 16 n) (Claims.crossNumber i.mode i.arg.toNat s) s := by
    rw [Claims.AddressIs, resolve_ramOnly hram, hn, Option.map_some]
  have hpeek : s.peek (BitVec.ofNat 16 n) = m := by
    rw [← BitVec.toNat_inj, hm, ramAt_eq_peek]
  exact operandIs_memory haddress (hpeek ▸ memRead_plain (hram.plainAt _))
end

section
/-! PROOF. The step (40_sequencer R100 to R103, R130 to R132): run control, the fetch of the decoded instruction, and the
step budget. -/

namespace Sys2Proof

/-- The encoding is as long as the mode says (R81). -/
theorem length_encode (i : Instr) : (encode i).length = i.length := by
  cases i <;> rfl

theorem dispatchMap_eq_unassigned {opcode : Byte} (h : lookupByOpcode opcode = none) : dispatchMap opcode = .unassigned := by
  unfold lookupByOpcode at h
  cases hslot : dispatchMap opcode with
  | unassigned => rfl
  | noOperand | byteOperand | wordOperand => simp [hslot, Slot.sample] at h

end Sys2Proof

namespace Sys2Proof.Machine

open Claims

section
variable {s t : State}

/-! ### Run control (R131, R132) -/

theorem checkRunControl_endAddress (h : s.cfg.endAddr = some s.pc) : checkRunControl s = some .endAddress := by
  rw [checkRunControl, if_pos h]

theorem checkRunControl_stepBudget {b : Nat} (hend : s.cfg.endAddr ≠ some s.pc) (hb : s.cfg.stepBudget = some b)
    (hle : b ≤ s.steps) : checkRunControl s = some .stepBudget := by
  simp only [checkRunControl, if_neg hend, hb, if_pos hle]

/-- A fetch is due iff PC is not the end address and the budget is not reached. -/
theorem checkRunControl_eq_none :
    checkRunControl s = none ↔ s.cfg.endAddr ≠ some s.pc ∧ ∀ b, s.cfg.stepBudget = some b → s.steps < b := by
  unfold checkRunControl
  split
  · simp [*]
  · cases s.cfg.stepBudget <;> simp [*]

section
variable (hform : s.cfg.wellFormed = true) (hreset : s.resetDone = true)
include hform hreset

theorem step_of_stopped {reason : StopReason} (h : s.status = .stopped reason) : step s = .next s := by
  simp [step, hform, hreset, h]

theorem step_of_faulted {record : FaultRecord} (h : s.status = .faulted record) : step s = .fault (.raised record s) := by
  simp [step, hform, hreset, h]

theorem step_of_running (h : s.status = .running) :
    step s = (checkRunControl s).elim (stepInstr s) fun reason => .next (s.setStatus (.stopped reason)) := by
  simp only [step, hform, hreset, h, Bool.true_eq_false, if_false]
  cases checkRunControl s <;> rfl

end

theorem step_of_ready (h : s.ready) : step s = stepInstr s := by
  obtain ⟨hform, hreset, hrunning, hcheck⟩ := h
  rw [step_of_running hform hreset hrunning, hcheck, Option.elim_none]

/-! ### The fetch (R58, R101 to R103) -/

theorem fetch_of_memRead {b : Byte} (h : memRead s.pc s = .done b t) : fetch s = .done b { t with pc := s.pc + 1 } := by
  have hpc : t.pc = s.pc := by rw [memRead_sameButLog h]
  rw [fetch, h, Run.andThen_done, hpc]
  rfl

theorem fetchesTo_cons {b : Byte} {rest : List Byte} :
    FetchesTo (b :: rest) s t ↔ ∃ u, fetch s = .done b u ∧ FetchesTo rest u t := by
  constructor
  · rintro ⟨u, hread, hrest⟩
    exact ⟨_, fetch_of_memRead hread, hrest⟩
  · rintro ⟨w, hfetch, hrest⟩
    obtain ⟨u, hread, rfl⟩ := fetch_done.mp hfetch
    have hpc : u.pc = s.pc := by rw [memRead_sameButLog hread]
    rw [hpc] at hrest
    exact ⟨u, hread, hrest⟩

/-- The fetch of a slot's instruction from its opcode and operand bytes. -/
theorem fetchInstr_of_fill {opcode : Byte} {o : Operand} {i : Instr} (hfill : (dispatchMap opcode).fill o = some i)
    (h : FetchesTo (opcode :: o.bytes) s t) : fetchInstr s = .done i t := by
  obtain ⟨u, hopcode, h⟩ := fetchesTo_cons.mp h
  rw [fetchInstr, hopcode, Run.andThen_done]
  cases hslot : dispatchMap opcode <;> rw [hslot] at hfill <;> cases o <;> cases hfill
  case noOperand.none.refl =>
    cases h
    rfl
  case byteOperand.byte.refl build b =>
    obtain ⟨w, hb, h⟩ := fetchesTo_cons.mp h
    cases h
    simp only [hb, Run.andThen_done]
  case wordOperand.word.refl build a =>
    obtain ⟨w, hlo, h⟩ := fetchesTo_cons.mp h
    obtain ⟨z, hhi, h⟩ := fetchesTo_cons.mp h
    cases h
    simp only [hlo, hhi, Run.andThen_done, hiLo_hiByte_loByte]

/-- Where the bytes fetched are those of `i`, the fetch answers `i`. -/
theorem fetchInstr_of_fetchesTo {bytes : List Byte} {i : Instr} (hdecode : decode bytes = .instr i [])
    (h : FetchesTo bytes s t) : fetchInstr s = .done i t := by
  rw [decode_eq_instr_iff.mp hdecode, List.append_nil, encode_eq_cons] at h
  exact fetchInstr_of_fill (dispatchMap_fill_operand i) h

theorem fetchInstr_unassigned {b : Byte} (hnone : lookupByOpcode b = none) (h : FetchesTo [b] s t) :
    fetchInstr s = .failed (t.raise (.unknownOpcode b s.pc)) := by
  obtain ⟨u, hfetch, h⟩ := fetchesTo_cons.mp h
  cases h
  rw [fetchInstr, hfetch, Run.andThen_done, dispatchMap_eq_unassigned hnone]

/-- Bytes of plain RAM from PC on are fetched with PC moving past them and nothing else changed. -/
theorem fetchesTo_plain {bytes : List Byte}
    (h : ∀ k b, bytes[k]? = some b → s.plainAt (s.pc + BitVec.ofNat 16 k) ∧ s.peek (s.pc + BitVec.ofNat 16 k) = b) :
    FetchesTo bytes s { s with pc := s.pc + BitVec.ofNat 16 bytes.length } := by
  induction bytes generalizing s with
  | nil => simp [FetchesTo]
  | cons b rest ih =>
    obtain ⟨hplain, hpeek⟩ : s.plainAt s.pc ∧ s.peek s.pc = b := by simpa using h 0 b rfl
    have hnext (k : Nat) : s.pc + 1 + BitVec.ofNat 16 k = s.pc + BitVec.ofNat 16 (k + 1) := by bv_omega
    refine ⟨s, hpeek ▸ memRead_plain hplain, ?_⟩
    rw [List.length_cons, ← hnext]
    refine ih (s := { s with pc := s.pc + 1 }) fun k c hc => ?_
    rw [hnext]
    exact h (k + 1) c hc

/-! ### The step budget (R132) -/

/-- One step stays within the budget: an instruction is fetched only below it, and counts one. -/
theorem step_keeps_budget {budget : Nat} (hbudget : s.cfg.stepBudget = some budget) (hsteps : s.steps ≤ budget)
    (h : step s = .next t) : t.steps ≤ budget ∧ t.cfg.stepBudget = some budget := by
  obtain ⟨-, -, ⟨reason, -, rfl⟩ | ⟨-, reason, -, rfl⟩ | ⟨-, hcheck, i, u, hfetch, hexec⟩⟩ := step_eq_next h
  · exact ⟨hsteps, hbudget⟩
  · exact ⟨hsteps, hbudget⟩
  · obtain ⟨-, hbelow⟩ := checkRunControl_eq_none.mp hcheck
    obtain ⟨hu, -⟩ := fetchInstr_within s i u hfetch
    obtain ⟨w, cost, hw, -, -, rfl⟩ := exec_within hexec
    have hsw := hu.trans hw
    rw [State.finalize_steps, State.finalize_cfg, hsw.steps, hsw.cfg]
    exact ⟨hbelow budget hbudget, hbudget⟩

end

end Sys2Proof.Machine

open Sys2Proof Sys2Proof.Machine

/-- Settles O6: the fetch reads the opcode and then the operand bytes of its slot, which are the bytes of `i`. -/
theorem stepRunsTheDecodedInstruction : Obligations.StepRunsTheDecodedInstruction := by
  have hstep {s t : State} {i : Instr} {bytes : List Byte} (hready : s.ready) (hdecode : decode bytes = .instr i [])
      (hfetches : Claims.FetchesTo bytes s t) : step s = exec i t := by
    rw [step_of_ready hready, stepInstr, fetchInstr_of_fetchesTo hdecode hfetches]
  refine ⟨fun _ _ _ _ => hstep, fun s i rest hready hdecode hplain => ?_⟩
  rw [decode_eq_instr_iff] at hdecode
  rw [← length_encode i] at hplain ⊢
  refine hstep hready (decode_eq_instr_iff.mpr (List.append_nil _).symm) (fetchesTo_plain fun k b hb => ?_)
  obtain ⟨hk, -⟩ := List.getElem?_eq_some_iff.mp hb
  refine ⟨hplain k hk, ?_⟩
  rw [← List.getElem?_append_left hk, ← hdecode] at hb
  match k with
  | 0 => simpa using hb
  | 1 | 2 => exact Option.some.inj hb
  | k + 3 => simp at hb

/-- Settles O7: the fetch of an unassigned byte fails after the read. -/
theorem unassignedOpcodeFaults : Obligations.UnassignedOpcodeFaults := by
  have hstep {s t : State} {b : Byte} (hready : s.ready) (hfetches : Claims.FetchesTo [b] s t)
      (hnone : lookupByOpcode b = none) : step s = .fault (t.raise (.unknownOpcode b s.pc)) := by
    rw [step_of_ready hready, stepInstr, fetchInstr_unassigned hnone hfetches]
  refine ⟨?_, fun s hready hplain hnone => hstep hready ⟨s, memRead_plain hplain, rfl⟩ hnone⟩
  rintro s t b _ hready hfetches hnone rfl
  exact hstep hready hfetches hnone

/-- Settles O8: the status is looked at before run control and fetch. -/
theorem stoppedOrFaultedStepDoesNothing : Obligations.StoppedOrFaultedStepDoesNothing := fun _ hform hreset =>
  ⟨fun _ => step_of_stopped hform hreset, fun _ => step_of_faulted hform hreset⟩

/-- Settles O9: the three answers of the run-control check. -/
theorem runControlChecksInOrder : Obligations.RunControlChecksInOrder := by
  intro s hform hreset hrunning
  rw [step_of_running hform hreset hrunning]
  refine ⟨fun hend => ?_, fun hend b hb hle => ?_, fun hend hbudget => ?_⟩
  · rw [checkRunControl_endAddress hend]
    rfl
  · rw [checkRunControl_stepBudget hend hb hle]
    rfl
  · rw [checkRunControl_eq_none.mpr ⟨hend, hbudget⟩]
    rfl

/-- Settles O58, by induction on the number of steps: an instruction is fetched only below the budget, and counts one. -/
theorem budgetBoundsTheRun : Obligations.BudgetBoundsTheRun := by
  intro n budget s t hbudget hsteps hrun
  induction n generalizing s with
  | zero =>
    cases hrun
    exact ⟨hsteps, hbudget⟩
  | succ n ih =>
    unfold run at hrun
    split at hrun
    next u hstep =>
      obtain ⟨husteps, hubudget⟩ := step_keeps_budget hbudget hsteps hstep
      split at hrun
      · exact ih u hubudget husteps hrun
      · cases hrun
        exact ⟨husteps, hubudget⟩
    · cases hrun
    · cases hrun
end

section
/-! PROOF. The ALU primitives as arithmetic (40_sequencer R123, R126), and the decimal policy (R124). -/

namespace Sys2Proof

theorem toNat_shiftLeft_one (v : Byte) : (v <<< 1).toNat = 2 * v.toNat % 256 := by
  rw [BitVec.toNat_shiftLeft, Nat.shiftLeft_eq, Nat.mul_comm]

theorem toNat_shiftRight_one (v : Byte) : (v >>> 1).toNat = v.toNat / 2 := by
  rw [BitVec.toNat_ushiftRight, Nat.shiftRight_eq_div_pow, pow_one]

end Sys2Proof

namespace Sys2Proof.Machine

/-! ### AddCore (R123) -/

theorem toNat_addCore_r (a m : Byte) (cin : Bool) : (addCore a m cin).r.toNat = (a.toNat + m.toNat + cin.toNat) % 256 :=
  BitVec.toNat_ofNat ..

theorem addCore_c_iff (a m : Byte) (cin : Bool) :
    (addCore a m cin).c = true ↔ 255 < a.toNat + m.toNat + cin.toNat := by
  simp only [addCore, decide_eq_true_eq]

/-- Overflow by signs: those of the operands agree, and the result's differs. -/
theorem addCore_v_iff_msb (a m : Byte) (cin : Bool) :
    (addCore a m cin).v = true ↔ a.msb = m.msb ∧ (addCore a m cin).r.msb ≠ a.msb := by
  have hv : (addCore a m cin).v = ((a.msb ^^ (addCore a m cin).r.msb) && (m.msb ^^ (addCore a m cin).r.msb)) := by
    simp only [addCore, BitVec.getLsbD_and, BitVec.getLsbD_xor, BitVec.msb_eq_getLsbD_last]
  rw [hv]
  cases a.msb <;> cases m.msb <;> cases (addCore a m cin).r.msb <;> decide

/-- Overflow by value: the exact signed sum is no signed byte. -/
theorem addCore_v_iff_toInt (a m : Byte) (cin : Bool) :
    (addCore a m cin).v = true ↔
      ¬ (-128 ≤ a.toInt + m.toInt + (cin.toNat : Int) ∧ a.toInt + m.toInt + (cin.toNat : Int) ≤ 127) := by
  have hr := toNat_addCore_r a m cin
  have ha := a.isLt
  have hm := m.isLt
  have hcin : cin.toNat ≤ 1 := Bool.toNat_le cin
  rw [addCore_v_iff_msb]
  simp only [BitVec.toInt_eq_toNat_cond, BitVec.msb_eq_decide, decide_eq_decide, ne_eq, hr]
  omega

/-! ### The shifts (R126) -/

theorem toNat_setWidth_ofBool (c : Bool) : ((BitVec.ofBool c).setWidth 8).toNat = c.toNat := by
  cases c <;> rfl

/-- The carry-in is added in the place the shift has cleared: bit 0. -/
theorem toNat_rolOp_r (v : Byte) (cin : Bool) : (rolOp v cin).r.toNat = 2 * v.toNat % 256 + cin.toNat := by
  have hshift : 2 * v.toNat % 256 = (v.toNat % 128) <<< 1 := by rw [Nat.shiftLeft_eq]; omega
  have hcin : cin.toNat < 2 ^ 1 := Bool.toNat_lt cin
  rw [rolOp, BitVec.toNat_or, toNat_setWidth_ofBool, toNat_shiftLeft_one, hshift, Nat.shiftLeft_add_eq_or_of_lt hcin]

/-- The carry-in is added in the place the shift has cleared: bit 7. -/
theorem toNat_rorOp_r (v : Byte) (cin : Bool) : (rorOp v cin).r.toNat = v.toNat / 2 + 128 * cin.toNat := by
  have hcin : ((BitVec.ofBool cin).setWidth 8 <<< 7).toNat = cin.toNat <<< 7 := by cases cin <;> rfl
  have hshift : v.toNat / 2 < 2 ^ 7 := by have := v.isLt; omega
  rw [rorOp, BitVec.toNat_or, toNat_shiftRight_one, hcin, Nat.or_comm, ← Nat.shiftLeft_add_eq_or_of_lt hshift,
    Nat.shiftLeft_eq, Nat.add_comm, Nat.mul_comm]

/-! ### The decimal policy (R124) -/

theorem decimalCheck_fault {fr : Fragment} {s : State} (hd : s.p.d = true) (hpolicy : s.cfg.decimalPolicy = .fault) :
    decimalCheck fr s = .failed (s.raise (.decimalModeUnsupported fr.opcode fr.a0)) :=
  if_pos ⟨hd, hpolicy⟩

/-- ADC and SBC share one behaviour, but for what they add (R170, R171). -/
theorem behaviourOf_add {mn : Mnemonic} (h : mn = .adc ∨ mn = .sbc) : ∃ f, behaviourOf mn = addWith f := by
  obtain rfl | rfl := h <;> exact ⟨_, rfl⟩

end Sys2Proof.Machine

open Sys2Proof Sys2Proof.Machine

/-- Settles O21: each clause is a fact of AddCore. -/
theorem addCoreRule : Obligations.AddCoreRule := fun a m cin =>
  ⟨toNat_addCore_r a m cin, addCore_c_iff a m cin, addCore_v_iff_msb a m cin, addCore_v_iff_toInt a m cin⟩

/-- Settles O22: a shift by one place is a doubling or a halving; the rotates add the carry-in. -/
theorem shiftPrimitiveRule : Obligations.ShiftPrimitiveRule := fun v cin =>
  ⟨⟨toNat_shiftLeft_one v, rfl⟩, ⟨toNat_shiftRight_one v, rfl⟩, ⟨toNat_rolOp_r v cin, rfl⟩, ⟨toNat_rorOp_r v cin, rfl⟩⟩

/-- Settles O29: the decimal check comes after the operand read, which changes the history only. -/
theorem decimalModeFaults : Obligations.DecimalModeFaults := by
  rintro i s m cross log hmn ⟨r, t, u, hresolve, hread, rfl, rfl⟩ hd hpolicy _ rfl
  obtain ⟨f, hbehaviour⟩ := behaviourOf_add hmn
  have hu : SameButLog s u := (resolve_sameButLog hresolve).trans (readOperand_sameButLog hread)
  have hcheck : decimalCheck (fragmentOf i s r) u =
      .failed (u.raise (.decimalModeUnsupported i.variant.opcode (s.pc - BitVec.ofNat 16 i.length))) :=
    decimalCheck_fault (by rw [hu, hd]) (by rw [hu, hpolicy])
  rw [exec_eq_execute, hbehaviour, execute_eq_fault]
  refine .inr ⟨r, t, hresolve, ?_⟩
  rw [addWith, hread, Run.andThen_done, hcheck, Run.andThen_failed, hu]
  rfl
end

section
/-! PROOF. The bus accesses of a completed instruction (40_sequencer R104): those of its mode and its mnemonic, in order.
What it leaves of RAM and what a device sees of it follow from that list. -/

namespace Sys2Proof.Machine

open Claims

/-! ### Sequences of bus accesses -/

/-- `t` is reached from `s` by exactly the listed bus accesses, each an address and whether it is a write, in that order;
between them RAM, access history and configuration stay. -/
inductive Accesses : List (Addr × Bool) → State → State → Prop
  | none {s t : State} : t.ram = s.ram → t.periphLog = s.periphLog → t.cfg = s.cfg → Accesses [] s t
  | read {s t : State} {a : Addr} {b : Byte} : memRead a s = .done b t → Accesses [(a, false)] s t
  | write {s t : State} {a : Addr} {v : Byte} {x : Unit} : memWrite a v s = .done x t → Accesses [(a, true)] s t
  | append {s u t : State} {l l' : List (Addr × Bool)} : Accesses l s u → Accesses l' u t → Accesses (l ++ l') s t

section
variable {s u t : State} {l : List (Addr × Bool)}

/-- A last part that makes no access. -/
theorem Accesses.append_none (h : Accesses l s u) (hram : t.ram = u.ram := by rfl)
    (hlog : t.periphLog = u.periphLog := by rfl) (hcfg : t.cfg = u.cfg := by rfl) : Accesses l s t := by
  simpa using h.append (.none hram hlog hcfg)

/-- A first part that makes no access. -/
theorem Accesses.none_append (h : Accesses l u t) (hram : u.ram = s.ram := by rfl)
    (hlog : u.periphLog = s.periphLog := by rfl) (hcfg : u.cfg = s.cfg := by rfl) : Accesses l s t :=
  (Accesses.none hram hlog hcfg).append h

theorem Accesses.cfg (h : Accesses l s t) : t.cfg = s.cfg := by
  induction h with
  | none _ _ hcfg => exact hcfg
  | read h => rw [memRead_sameButLog h]
  | write h => rw [memWrite_sameButBus h]
  | append _ _ ih ih' => exact ih'.trans ih

/-- A byte that no access writes keeps its value, and RAM its canonical form. -/
theorem Accesses.peek_of_not_written (h : Accesses l s t) (hwf : s.ram.wf = true) {b : Addr} (hb : (b, true) ∉ l) :
    t.ram.wf = true ∧ t.peek b = s.peek b := by
  induction h with
  | none hram => simp only [State.peek, hram, hwf, and_self]
  | read h =>
    rw [memRead_sameButLog h]
    exact ⟨hwf, rfl⟩
  | @write _ _ a v _ h =>
    have hne : b ≠ a := by simpa using hb
    obtain ⟨-, ⟨-, rfl⟩ | ⟨p, -, -, rfl⟩⟩ := memWrite_done h
    · exact ⟨State.wf_poke hwf a v, State.peek_poke_other hwf v hne⟩
    · exact ⟨hwf, rfl⟩
  | append _ _ ih ih' =>
    rw [List.mem_append, not_or] at hb
    obtain ⟨hwfu, hu⟩ := ih hwf hb.1
    obtain ⟨hwft, ht⟩ := ih' hwfu hb.2
    exact ⟨hwft, ht.trans hu⟩

/-! ### One device on the whole address space -/

/-- The device is bound to every address and is the only one. -/
abbrev State.SoleDevice (s : State) (device : Nat) : Prop :=
  s.cfg.peripherals = [{ first := 0, last := 0xFFFF, device := device }]

theorem State.SoleDevice.peripheralAt {device : Nat} (h : s.SoleDevice device) (a : Addr) :
    s.peripheralAt a = some { first := 0, last := 0xFFFF, device := device } := by
  have ha : (0 : Addr) ≤ a ∧ a ≤ 0xFFFF := by constructor <;> bv_omega
  simpa [State.peripheralAt, h] using ha

theorem State.SoleDevice.memRead_done {device : Nat} (h : s.SoleDevice device) {a : Addr} {b : Byte}
    (hread : memRead a s = .done b t) : t = s.logAccess { device := device, addr := a, kind := .read } := by
  obtain ⟨-, ⟨hnone, -⟩ | ⟨p, hp, -, rfl⟩⟩ := Machine.memRead_done hread
  · cases hnone.symm.trans (h.peripheralAt a)
  · cases hp.symm.trans (h.peripheralAt a)
    rfl

theorem State.SoleDevice.memWrite_done {device : Nat} (h : s.SoleDevice device) {a : Addr} {v : Byte} {x : Unit}
    (hwrite : memWrite a v s = .done x t) : t = s.logAccess { device := device, addr := a, kind := .write v } := by
  obtain ⟨-, ⟨hnone, -⟩ | ⟨p, hp, -, rfl⟩⟩ := Machine.memWrite_done hwrite
  · cases hnone.symm.trans (h.peripheralAt a)
  · cases hp.symm.trans (h.peripheralAt a)
    rfl

/-- A device bound to every address sees every access, and RAM none. -/
theorem Accesses.logged (h : Accesses l s t) {device : Nat} (hsole : s.SoleDevice device) :
    ∃ new, t.periphLog = new ++ s.periphLog ∧ new.reverse.map accessOf = l ∧ (∀ e ∈ new, e.device = device) ∧
      t.ram = s.ram := by
  induction h with
  | none hram hlog => exact ⟨[], hlog, rfl, by simp, hram⟩
  | read h =>
    rw [hsole.memRead_done h]
    exact ⟨[_], rfl, by simp [accessOf], by simp, rfl⟩
  | write h =>
    rw [hsole.memWrite_done h]
    exact ⟨[_], rfl, by simp [accessOf], by simp, rfl⟩
  | append hsu _ ih ih' =>
    obtain ⟨new, hlog, hmap, hdevice, hram⟩ := ih hsole
    obtain ⟨new', hlog', hmap', hdevice', hram'⟩ := ih' (by rw [State.SoleDevice, hsu.cfg, hsole])
    refine ⟨new' ++ new, ?_, ?_, List.forall_mem_append.mpr ⟨hdevice', hdevice⟩, hram'.trans hram⟩
    · rw [hlog', hlog, List.append_assoc]
    · rw [List.reverse_append, List.map_append, hmap, hmap']

/-! ### Stack slots after a change of S -/

theorem slot_eq_of_sp {j : Nat} (h : u.sp = s.sp - BitVec.ofNat 8 j) (k : Nat) : slot u k = slot s (j + k) := by
  rw [slot, slot, h, BitVec.sub_sub, BitVec.ofNat_add]

theorem pullSlot_eq_of_sp {j : Nat} (h : u.sp = s.sp + BitVec.ofNat 8 j) (k : Nat) :
    pullSlot u k = pullSlot s (j + k) := by
  rw [pullSlot, pullSlot, h, BitVec.add_assoc, BitVec.ofNat_add]

end

/-! ### The accesses of the shared operations -/

section
variable {s t : State} {x : Unit}

theorem readPair_accesses {lo hi p : Addr} (h : readPair lo hi s = .done p t) :
    Accesses [(lo, false), (hi, false)] s t := by
  obtain ⟨l, u, hlo, h⟩ := Run.andThen_eq_done.mp h
  obtain ⟨r, w, hhi, h⟩ := Run.andThen_eq_done.mp h
  cases h
  exact (Accesses.read hlo).append (.read hhi)

theorem push_accesses {v : Byte} (h : push v s = .done x t) : Accesses [(slot s 0, true)] s t := by
  obtain ⟨u, hwrite, rfl⟩ := push_done h
  rw [slot, BitVec.sub_zero]
  exact (Accesses.write hwrite).append_none

theorem pull_accesses {v : Byte} (h : pull s = .done v t) : Accesses [(pullSlot s 1, false)] s t :=
  .none_append (.read (s := s.setSp (s.sp + 1)) h)

theorem pushPair_accesses {v : Addr} (h : pushPair v s = .done x t) :
    Accesses [(slot s 0, true), (slot s 1, true)] s t := by
  obtain ⟨u, hhi, hlo⟩ := pushPair_done.mp h
  have hsp : u.sp = s.sp - BitVec.ofNat 8 1 := congrArg State.sp (push_frame hhi)
  rw [← slot_eq_of_sp hsp 0]
  exact (push_accesses hhi).append (push_accesses hlo)

theorem pullPair_accesses {v : Addr} (h : pullPair s = .done v t) :
    Accesses [(pullSlot s 1, false), (pullSlot s 2, false)] s t := by
  obtain ⟨l, u, r, hlo, hhi, -⟩ := pullPair_done.mp h
  have hsp : u.sp = s.sp + BitVec.ofNat 8 1 := congrArg State.sp (pull_frame hlo)
  rw [← pullSlot_eq_of_sp hsp 1]
  exact (pull_accesses hlo).append (pull_accesses hhi)

theorem brkEntry_accesses (h : brkEntry s = .done x t) :
    Accesses [(slot s 0, true), (slot s 1, true), (slot s 2, true), (s.cfg.brkVector, false),
      (s.cfg.brkVector + 1, false)] s t := by
  obtain ⟨u, w, z, target, hpc, hp, hvector, rfl⟩ := brkEntry_done.mp h
  have hpcAccesses := pushPair_accesses hpc
  have hpAccesses := push_accesses hp
  have hsp : u.sp = s.sp - BitVec.ofNat 8 2 := congrArg State.sp (pushPair_frame hpc)
  rw [slot_eq_of_sp hsp 0] at hpAccesses
  rw [← hpcAccesses.cfg, ← hpAccesses.cfg]
  exact hpcAccesses.append <| hpAccesses.append <| (readPair_accesses hvector).none_append.append_none

theorem returnFromBreak_accesses (h : returnFromBreak s = .done x t) :
    Accesses [(pullSlot s 1, false), (pullSlot s 2, false), (pullSlot s 3, false)] s t := by
  obtain ⟨b, u, target, w, hp, hpc, rfl⟩ := returnFromBreak_done.mp h
  have hsp : (u.setP (Flags.ofByte b)).sp = s.sp + BitVec.ofNat 8 1 := congrArg State.sp (pull_frame hp)
  have hpcAccesses := pullPair_accesses hpc
  rw [pullSlot_eq_of_sp hsp 1, pullSlot_eq_of_sp hsp 2] at hpcAccesses
  exact (pull_accesses hp).append hpcAccesses.none_append.append_none

end

/-! ### The accesses of the behaviours -/

section
variable {s t : State} {mode : Mode} {fr : Fragment} {k : Nat}

/-- One read at the effective address, where there is one (R119). -/
theorem readOperand_accesses {m : Byte} (h : readOperand mode fr s = .done m t) (hea : mode = .immediate → fr.ea = none) :
    Accesses (fr.ea.toList.map fun a => (a, false)) s t := by
  obtain ⟨himm, -, rfl⟩ | ⟨-, a, ha, hread⟩ := readOperand_done.mp h
  · rw [hea himm]
    exact .none rfl rfl rfl
  · rw [ha]
    exact .read hread

theorem readThen_accesses {f : Byte → State → State} (h : readThen f mode fr s = .done k t)
    (hea : mode = .immediate → fr.ea = none) (hf : ∀ m u, SameButRegisters u (f m u)) :
    Accesses (fr.ea.toList.map fun a => (a, false)) s t := by
  obtain ⟨m, u, hread, -, rfl⟩ := readThen_done.mp h
  rw [hf m u]
  exact (readOperand_accesses hread hea).append_none

theorem addWith_accesses {f : Byte → Byte} (h : addWith f mode fr s = .done k t) (hea : mode = .immediate → fr.ea = none) :
    Accesses (fr.ea.toList.map fun a => (a, false)) s t := by
  obtain ⟨m, u, hread, -, -, rfl⟩ := addWith_done.mp h
  exact (readOperand_accesses hread hea).append_none

theorem storeOf_accesses {value : State → Byte} (h : storeOf value mode fr s = .done k t) :
    Accesses (fr.ea.toList.map fun a => (a, true)) s t := by
  obtain ⟨a, ha, hwrite, -⟩ := storeOf_done.mp h
  rw [ha]
  exact .write hwrite

theorem modifyBy_accesses {f : Byte → Byte} (h : modifyBy f mode fr s = .done k t) :
    Accesses (fr.ea.toList.flatMap fun a => [(a, false), (a, true)]) s t := by
  obtain ⟨a, v, u, w, ha, hread, hwrite, -, rfl⟩ := modifyBy_done.mp h
  rw [ha]
  exact (Accesses.read hread).append (Accesses.write hwrite).append_none

theorem shiftBy_accesses {op : Byte → Bool → ShiftResult} (h : shiftBy op mode fr s = .done k t)
    (hea : mode = .accumulator → fr.ea = none) :
    Accesses (fr.ea.toList.flatMap fun a => [(a, false), (a, true)]) s t := by
  obtain ⟨hacc, -, rfl⟩ | ⟨-, a, v, u, w, ha, hread, hwrite, -, rfl⟩ := shiftBy_done.mp h
  · rw [hea hacc]
    exact .none rfl rfl rfl
  · rw [ha]
    exact (Accesses.read hread).append (Accesses.write hwrite).append_none

/-- One case per shape of behaviour, and per behaviour that has none. -/
theorem behaviourOf_accesses {i : Instr} (h : behaviourOf i.mnemonic mode fr s = .done k t)
    (hea : mode = .immediate ∨ mode = .accumulator → fr.ea = none) : Accesses (ownAccesses i s fr.ea) s t := by
  unfold ownAccesses
  generalize i.mnemonic = mn at h
  cases mn <;> simp only [behaviourOf] at h ⊢
  case lda | ldx | ldy | and | ora | eor | cmp | cpx | cpy | bit =>
    exact readThen_accesses h (fun himm => hea (.inl himm)) fun _ _ => rfl
  case adc | sbc => exact addWith_accesses h fun himm => hea (.inl himm)
  case sta | stx | sty => exact storeOf_accesses h
  case inc | dec => exact modifyBy_accesses h
  case asl | lsr | rol | ror => exact shiftBy_accesses h fun hacc => hea (.inr hacc)
  case tax | tay | txa | tya | tsx | txs | inx | iny | dex | dey | clc | sec | cli | sei | cld | sed | clv | nop =>
    obtain ⟨-, rfl⟩ := registerOnly_done.mp h
    exact .none rfl rfl rfl
  case bpl | bmi | bvc | bvs | bcc | bcs | bne | beq =>
    obtain ⟨target, rfl⟩ := branchIf_writes h
    exact .none rfl rfl rfl
  case jmp =>
    obtain ⟨a, -, h⟩ := withEa_done.mp h
    cases h
    exact .none rfl rfl rfl
  case pha | php =>
    obtain ⟨_, u, hpush, h⟩ := Run.andThen_eq_done.mp h
    cases h
    exact push_accesses hpush
  case jsr =>
    obtain ⟨_, u, hpush, h⟩ := Run.andThen_eq_done.mp h
    cases h
    exact (pushPair_accesses hpush).append_none
  case pla | plp =>
    obtain ⟨v, u, hpull, h⟩ := Run.andThen_eq_done.mp h
    cases h
    exact (pull_accesses hpull).append_none
  case rts =>
    obtain ⟨target, u, hpull, h⟩ := Run.andThen_eq_done.mp h
    cases h
    exact (pullPair_accesses hpull).append_none
  case rti =>
    obtain ⟨_, u, hreturn, h⟩ := Run.andThen_eq_done.mp h
    cases h
    exact returnFromBreak_accesses hreturn
  case brk =>
    obtain ⟨hmode, rfl⟩ | ⟨hmode, hentry⟩ := behaveBrk_cases h
    · rw [hmode]
      exact .none rfl rfl rfl
    · rw [if_pos hmode]
      exact (brkEntry_accesses hentry).none_append

end

/-! ### The accesses of a completed instruction -/

section
variable {s t : State}

/-- The resolver reads the pointer bytes of the mode, low byte first (R115 to R118). -/
theorem resolve_accesses {mode : Mode} {arg : Addr} {r : Resolved} (h : resolve mode arg s = .done r t) :
    Accesses ((pointerAt mode arg.toNat s).map fun a => (a, false)) s t := by
  obtain hnone | ⟨lo, hi, hpointer⟩ := pointerAt_cases mode arg.toNat s
  · rw [resolve_of_no_pointer hnone] at h
    cases h
    rw [hnone]
    exact .none rfl rfl rfl
  · rw [resolve_of_pointer hpointer] at h
    obtain ⟨base, u, hpair, h⟩ := Run.andThen_eq_done.mp h
    cases h
    rw [hpointer]
    exact readPair_accesses hpair

theorem resolve_ea_eq_none {mode : Mode} {arg : Addr} {r : Resolved} (h : resolve mode arg s = .done r t)
    (hmode : mode = .immediate ∨ mode = .accumulator) : r.ea = none := by
  obtain rfl | rfl := hmode <;> cases h <;> rfl

/-- The slots and the vector are those of the state before the pointer reads. -/
theorem ownAccesses_of_sameButLog (h : SameButLog s t) (i : Instr) (ea : Option Addr) :
    ownAccesses i t ea = ownAccesses i s ea := by
  rw [h]
  rfl

/-- A completed instruction makes the accesses of its mode, then those of its mnemonic, and no others (R104). -/
theorem exec_accesses {i : Instr} (h : exec i s = .next t) :
    ∃ r u, resolve i.mode i.arg s = .done r u ∧
      Accesses ((pointerAt i.mode i.arg.toNat s).map (fun a => (a, false)) ++ ownAccesses i s r.ea) s t := by
  rw [exec_eq_execute] at h
  obtain ⟨r, u, extra, w, hresolve, hbehave, rfl⟩ := execute_eq_next.mp h
  have hown : Accesses (ownAccesses i u r.ea) u w := behaviourOf_accesses hbehave (resolve_ea_eq_none hresolve)
  rw [ownAccesses_of_sameButLog (resolve_sameButLog hresolve)] at hown
  exact ⟨r, u, hresolve, (resolve_accesses hresolve).append hown.append_none⟩

/-- The writes among an instruction's own accesses are its stores. -/
theorem storesAt_of_mem_ownAccesses {i : Instr} {r : Resolved} {b : Addr}
    (hresolve : resolve i.mode i.arg s = .done r t) (hb : (b, true) ∈ ownAccesses i s r.ea) : storesAt i s b := by
  have haddress (hea : b ∈ r.ea) : ∃ cross t, AddressIs i s b cross t := by
    obtain ⟨ea, cross⟩ := r
    cases hea
    exact ⟨cross, t, hresolve⟩
  unfold ownAccesses at hb
  unfold storesAt
  generalize i.mnemonic = mn at hb ⊢
  cases mn <;> simp at hb
  case sta | stx | sty | inc | dec | asl | lsr | rol | ror => exact .inl ⟨by decide, haddress hb⟩
  case pha | php => exact .inr (.inl ⟨by decide, hb⟩)
  case jsr => exact .inr (.inr (.inl ⟨rfl, hb⟩))
  case brk => exact .inr (.inr (.inr ⟨rfl, hb⟩))

end

end Sys2Proof.Machine

open Sys2Proof.Machine

/-- Settles O52: the writes among an instruction's accesses are its stores. -/
theorem memoryFrame : Obligations.MemoryFrame := by
  intro i s t hwf h b hb
  obtain ⟨r, u, hresolve, haccesses⟩ := exec_accesses h
  refine (haccesses.peek_of_not_written hwf fun hmem => hb ?_).2
  exact storesAt_of_mem_ownAccesses hresolve (by simpa using hmem)

/-- Settles O53: the device sees each of an instruction's accesses. -/
theorem accessesAreThoseListed : Obligations.AccessesAreThoseListed := by
  intro i s t device hsole h
  obtain ⟨r, u, hresolve, haccesses⟩ := exec_accesses h
  obtain ⟨new, hlog, hmap, hdevice, hram⟩ := haccesses.logged hsole
  exact ⟨r, u, new, hresolve, hlog, hmap, hdevice, hram⟩
end

section
/-! PROOF. What a whole instruction does, from what its behaviour does (40_sequencer R105 to R107), by the shape of the
behaviour; and the loads, stores and register transfers (41_load_store_transfer). -/

namespace Sys2Proof.Machine

open Sys2Proof.Claims

variable {i : Instr} {s t u : State} {cross : Bool}

/-! ### The cost (R127, R129) -/

theorem inReadClass_iff (mn : Mnemonic) : inReadClass mn = true ↔ paysUnderReadsOnly mn := by
  cases mn <;> decide

/-- The base count with the page penalty is `cost`. -/
theorem base_add_extra (i : Instr) (s : State) (r : Resolved) :
    i.variant.base + (fragmentOf i s r).extra = cost i s r.cross := by
  simp only [fragmentOf, addrPenalty, cost, Bool.and_eq_true, Bool.or_eq_true, decide_eq_true_eq, inReadClass_iff]

/-! ### Whole instructions, by shape -/

/-- An instruction whose behaviour is done completes, for `cost` and the extra cycles of the behaviour. -/
theorem exec_of_behaviour_done {r : Resolved} {k : Nat} (hresolve : resolve i.mode i.arg s = .done r t)
    (hbehave : behaviourOf i.mnemonic i.mode (fragmentOf i s r) t = .done k u) :
    exec i s = .next (finish (cost i s r.cross + k) u) := by
  rw [exec_eq_execute, execute_eq_next]
  refine ⟨r, t, k, u, hresolve, hbehave, ?_⟩
  rw [base_add_extra]
  rfl

/-- A read-class instruction applies its change to the state before it, its accesses logged. -/
theorem exec_of_readThen {f : Byte → State → State} (hshape : behaviourOf i.mnemonic = readThen f) {m : Byte}
    {log : List PeripheralAccess} (hoperand : OperandIs i s m cross log) :
    exec i s = .next (finish (cost i s cross) (f m { s with periphLog := log })) := by
  obtain ⟨r, t, u, hresolve, hread, rfl, rfl⟩ := hoperand
  have hu : SameButLog s u := (resolve_sameButLog hresolve).trans (readOperand_sameButLog hread)
  have hdone : behaviourOf i.mnemonic i.mode (fragmentOf i s r) t = .done 0 (f m u) := by
    rw [hshape, readThen_done]
    exact ⟨m, u, hread, rfl, rfl⟩
  rw [exec_of_behaviour_done hresolve hdone, ← hu, Nat.add_zero]

/-- A store changes what its write does: RAM and the access history. -/
theorem exec_of_storeOf {value : State → Byte} (hshape : behaviourOf i.mnemonic = storeOf value) {a : Addr}
    (haddress : AddressIs i s a cross t) (hwrite : memWrite a (value t) t = .done () u) :
    exec i s = .next (finish (cost i s cross) { s with ram := u.ram, periphLog := u.periphLog }) := by
  have hu : SameButBus s u := (resolve_sameButLog haddress).toBus.trans (memWrite_sameButBus hwrite)
  have hdone : behaviourOf i.mnemonic i.mode (fragmentOf i s ⟨some a, cross⟩) t = .done 0 u := by
    rw [hshape, storeOf_done]
    exact ⟨a, rfl, hwrite, rfl⟩
  rw [exec_of_behaviour_done haddress hdone, ← hu, Nat.add_zero]

/-- An implied instruction with no bus access of its own applies its change, for its base count. -/
theorem exec_of_registerOnly {f : State → State} (hshape : behaviourOf i.mnemonic = registerOnly f)
    (himplied : i.mode = .implied) : exec i s = .next (finish i.variant.base (f s)) := by
  have hresolve : resolve i.mode i.arg s = .done ⟨none, false⟩ s := by
    rw [himplied]
    rfl
  have hdone : behaviourOf i.mnemonic i.mode (fragmentOf i s ⟨none, false⟩) s = .done 0 (f s) := by
    rw [hshape]
    rfl
  rw [exec_of_behaviour_done hresolve hdone]
  rfl

/-- SetNZ on the state is `nz` on its P (R27). -/
theorem State.setNZ_eq (v : Byte) (s : State) : s.setNZ v = { s with p := nz v s.p } := by
  rw [State.setNZ, Flags.setNZ_eq_nz]
  rfl

/-! ### The shapes of this family -/

/-- Each store writes its register, which the pointer reads leave as it was (R143 to R145). -/
theorem behaviourOf_store {mn : Mnemonic} {v : Byte}
    (h : (mn = .sta ∧ v = s.a) ∨ (mn = .stx ∧ v = s.x) ∨ (mn = .sty ∧ v = s.y)) :
    ∃ value, behaviourOf mn = storeOf value ∧ ∀ t, SameButLog s t → value t = v := by
  obtain ⟨rfl, rfl⟩ | ⟨rfl, rfl⟩ | ⟨rfl, rfl⟩ := h
  · exact ⟨State.a, rfl, fun t ht => by rw [ht]⟩
  · exact ⟨State.x, rfl, fun t ht => by rw [ht]⟩
  · exact ⟨State.y, rfl, fun t ht => by rw [ht]⟩

end Sys2Proof.Machine

open Sys2Proof Sys2Proof.Machine

/-- Settles O24: the three mnemonics have the read shape; what they do with the operand is a register and SetNZ. -/
theorem loadsLoadTheOperand : Obligations.LoadsLoadTheOperand := by
  intro i s m cross log hoperand
  refine ⟨fun hmn => ?_, fun hmn => ?_, fun hmn => ?_⟩ <;>
  · rw [exec_of_readThen (by rw [hmn]; rfl) hoperand, State.setNZ_eq]
    rfl

/-- Settles O25: a store's one write is of its register, and a write changes RAM and the history only. -/
theorem storesWriteTheRegister : Obligations.StoresWriteTheRegister := by
  intro i s t u a cross v haddress hregister hwrite
  obtain ⟨value, hshape, hvalue⟩ := behaviourOf_store hregister
  rw [← hvalue t (resolve_sameButLog haddress)] at hwrite
  exact exec_of_storeOf hshape haddress hwrite

/-- Settles O26: each transfer is a register change with no bus access, whose flags are those of SetNZ. -/
theorem transfersCopyARegister : Obligations.TransfersCopyARegister := by
  refine ⟨⟨rfl, rfl, rfl, rfl, rfl, rfl⟩, fun s => ?_⟩
  simp only [← Flags.setNZ_eq_nz]
  exact ⟨exec_of_registerOnly (i := .tax) rfl rfl, exec_of_registerOnly (i := .tay) rfl rfl,
    exec_of_registerOnly (i := .txa) rfl rfl, exec_of_registerOnly (i := .tya) rfl rfl,
    exec_of_registerOnly (i := .tsx) rfl rfl, exec_of_registerOnly (i := .txs) rfl rfl⟩
end

section
/-! PROOF. Arithmetic, compare, increment and decrement (42_arithmetic R170 to R181): the results of the primitives as
arithmetic, and the instructions from the shapes of their behaviours. -/

namespace Sys2Proof

/-! ### One more and one less, modulo 256 -/

theorem eq_add_one_of_toNat {v r : Byte} (h : r.toNat = (v.toNat + 1) % 256) : r = v + 1 :=
  BitVec.eq_of_toNat_eq h

theorem eq_sub_one_of_toNat {v r : Byte} (h : r.toNat = (v.toNat + 255) % 256) : r = v - 1 := by
  bv_omega

end Sys2Proof

namespace Sys2Proof.Machine

open Claims

/-! ### Results of the primitives as arithmetic (R123, R125) -/

section
variable {a m r : Byte} {cin : Bool}

/-- What ADC adds (R170): the sum, its unsigned carry, and whether the signed sum overflows. -/
theorem addCore_eq (hr : r.toNat = (a.toNat + m.toNat + cin.toNat) % 256) :
    addCore a m cin = {
      r := r
      c := decide (255 < a.toNat + m.toNat + cin.toNat)
      v := decide (¬ (-128 ≤ a.toInt + m.toInt + (cin.toNat : Int) ∧ a.toInt + m.toInt + (cin.toNat : Int) ≤ 127)) } := by
  have hresult : (addCore a m cin).r = r := BitVec.eq_of_toNat_eq ((toNat_addCore_r a m cin).trans hr.symm)
  rw [← hresult, ← Bool.decide_congr (addCore_v_iff_toInt a m cin), Bool.decide_eq_true]
  rfl

/-- What SBC adds (R171): the complement of the operand is `-m - 1`, so the sum is the difference, its carry is no borrow,
and its overflow that of the signed difference. -/
theorem addCore_not_eq (hr : (r.toNat : Int) = ((a.toNat : Int) - m.toNat - (1 - cin.toNat)) % 256) :
    addCore a (~~~m) cin = {
      r := r
      c := decide (m.toNat + (1 - cin.toNat) ≤ a.toNat)
      v := decide (¬ (-128 ≤ a.toInt - m.toInt - (1 - (cin.toNat : Int)) ∧
        a.toInt - m.toInt - (1 - (cin.toNat : Int)) ≤ 127)) } := by
  have hm := m.isLt
  have hcin : cin.toNat ≤ 1 := Bool.toNat_le cin
  have hnot : (~~~m).toNat = 255 - m.toNat := BitVec.toNat_not
  have hneg : (~~~m).toInt = -m.toInt - 1 := by
    simp only [BitVec.toInt_eq_toNat_cond, hnot]
    omega
  rw [addCore_eq (r := r) (by omega), hnot, hneg, AluResult.mk.injEq, decide_eq_decide, decide_eq_decide]
  refine ⟨rfl, ?_, ?_⟩ <;> omega

end

/-- CompareCore (R125): no borrow, equality, and the sign bit of the difference. -/
theorem Flags.compare_eq (r m : Byte) (p : Flags) :
    Flags.compare r m p = { p with
      c := decide (m.toNat ≤ r.toNat), z := decide (r = m),
      n := decide (128 ≤ ((r.toNat : Int) - m.toNat) % 256) } := by
  have hr := r.isLt
  have hm := m.isLt
  simp only [Flags.compare, Flags.setNZ_eq_nz, nz, BitVec.toNat_ofNat, Flags.mk.injEq, decide_eq_decide, true_and,
    ← BitVec.toNat_inj]
  omega

/-! ### Whole instructions, by shape -/

section
variable {i : Instr} {s t u w : State} {cross : Bool}

/-- Where ADC and SBC add in binary, the decimal check passes (R124). -/
theorem not_decimal_fault_of_addsInBinary (h : addsInBinary s) : ¬ (s.p.d = true ∧ s.cfg.decimalPolicy = .fault) := by
  rintro ⟨hd, hpolicy⟩
  obtain hclear | hbinary := h
  · exact absurd (hclear.symm.trans hd) (by decide)
  · exact absurd (hbinary.symm.trans hpolicy) (by decide)

/-- ADC and SBC in binary: A and the flags are those of the sum. -/
theorem exec_of_addWith {f : Byte → Byte} (hshape : behaviourOf i.mnemonic = addWith f) {m : Byte}
    {log : List PeripheralAccess} (hoperand : OperandIs i s m cross log) (hbinary : addsInBinary s) {r : Byte}
    {c v : Bool} (hsum : addCore s.a (f m) s.p.c = ⟨r, c, v⟩) :
    exec i s = .next (finish (cost i s cross)
      { s with a := r, periphLog := log, p := nz r { s.p with c := c, v := v } }) := by
  obtain ⟨res, t, u, hresolve, hread, rfl, rfl⟩ := hoperand
  have hu : SameButLog s u := (resolve_sameButLog hresolve).trans (readOperand_sameButLog hread)
  have hcheck : ¬ (u.p.d = true ∧ u.cfg.decimalPolicy = .fault) := by
    rw [hu]
    exact not_decimal_fault_of_addsInBinary hbinary
  have hdone := (addWith_done (f := f)).mpr ⟨m, u, hread, hcheck, rfl, rfl⟩
  rw [← hshape] at hdone
  rw [exec_of_behaviour_done hresolve hdone, hu, hsum, ← Flags.setNZ_eq_nz]
  rfl

/-- INC and DEC: N and Z of the byte written, RAM and the access history as the write leaves them. -/
theorem exec_of_modifyBy {f : Byte → Byte} (hshape : behaviourOf i.mnemonic = modifyBy f) {a : Addr} {v : Byte}
    (haddress : AddressIs i s a cross t) (hread : memRead a t = .done v u) (hwrite : memWrite a (f v) u = .done () w) :
    exec i s = .next (finish (cost i s cross)
      { s with p := nz (f v) s.p, ram := w.ram, periphLog := w.periphLog }) := by
  have hw : SameButBus s w :=
    ((resolve_sameButLog haddress).trans (memRead_sameButLog hread)).toBus.trans (memWrite_sameButBus hwrite)
  have hdone : behaviourOf i.mnemonic i.mode (fragmentOf i s ⟨some a, cross⟩) t = .done 0 (w.setNZ (f v)) := by
    rw [hshape, modifyBy_done]
    exact ⟨a, v, u, w, rfl, hread, hwrite, rfl, rfl⟩
  rw [exec_of_behaviour_done haddress hdone, State.setNZ_eq, hw]
  rfl

end

/-! ### The shapes of this family -/

/-- Each compare reads its own register and sets the flags of CompareCore (R172 to R174). -/
theorem behaviourOf_compare {mn : Mnemonic} {s : State} {r : Byte}
    (h : (mn = .cmp ∧ r = s.a) ∨ (mn = .cpx ∧ r = s.x) ∨ (mn = .cpy ∧ r = s.y)) :
    ∃ f, behaviourOf mn = readThen f ∧
      ∀ m log, f m { s with periphLog := log } = { s with periphLog := log, p := Flags.compare r m s.p } := by
  obtain ⟨rfl, rfl⟩ | ⟨rfl, rfl⟩ | ⟨rfl, rfl⟩ := h <;> exact ⟨_, rfl, fun _ _ => rfl⟩

/-- INC and DEC change the byte by one (R175, R176). -/
theorem behaviourOf_incDec {mn : Mnemonic} {v r : Byte}
    (h : (mn = .inc ∧ r.toNat = (v.toNat + 1) % 256) ∨ (mn = .dec ∧ r.toNat = (v.toNat + 255) % 256)) :
    ∃ f, behaviourOf mn = modifyBy f ∧ f v = r := by
  obtain ⟨rfl, hr⟩ | ⟨rfl, hr⟩ := h
  · exact ⟨_, rfl, (eq_add_one_of_toNat hr).symm⟩
  · exact ⟨_, rfl, (eq_sub_one_of_toNat hr).symm⟩

end Sys2Proof.Machine

open Sys2Proof Sys2Proof.Machine

/-- Settles O27: ADC adds the operand itself. -/
theorem adcAddsWithCarry : Obligations.AdcAddsWithCarry := fun _ _ _ _ _ hmn hoperand hbinary _ hr =>
  exec_of_addWith (by rw [hmn]; rfl) hoperand hbinary (addCore_eq hr)

/-- Settles O28: SBC adds the complement of the operand. -/
theorem sbcSubtractsWithBorrow : Obligations.SbcSubtractsWithBorrow := fun _ _ _ _ _ hmn hoperand hbinary _ hr =>
  exec_of_addWith (by rw [hmn]; rfl) hoperand hbinary (addCore_not_eq hr)

/-- Settles O30: the difference that SBC forms, of the sum that ADC left, is A again modulo 256. -/
theorem sbcUndoesAdc : Obligations.SbcUndoesAdc := by
  intro i j s t m cross cross' log log' hadc hsbc hoperand hbinary hexec hoperand'
  have hsum := toNat_addCore_r s.a m s.p.c
  rw [adcAddsWithCarry i s m cross log hadc hoperand hbinary _ hsum] at hexec
  cases hexec
  refine ⟨_, sbcSubtractsWithBorrow j _ m cross' log' hsbc hoperand' hbinary s.a ?_, rfl⟩
  have ha := s.a.isLt
  have hcarry : (!s.p.c).toNat = 1 - s.p.c.toNat := by cases s.p.c <;> rfl
  have hcin : s.p.c.toNat ≤ 1 := Bool.toNat_le _
  simp only [Claims.finish, hsum, hcarry]
  omega

/-- Settles O31: the compares have the read shape, and their flags are those of CompareCore. -/
theorem comparesSetCarryZeroNegative : Obligations.ComparesSetCarryZeroNegative := by
  intro i s m r cross log hoperand hregister
  obtain ⟨f, hshape, hf⟩ := behaviourOf_compare hregister
  rw [exec_of_readThen hshape hoperand, hf, Flags.compare_eq]

/-- Settles O32: the byte written is the one read, changed by one. -/
theorem incDecMemory : Obligations.IncDecMemory := by
  intro i s t u w a cross v r haddress hread hchange hwrite
  obtain ⟨f, hshape, rfl⟩ := behaviourOf_incDec hchange
  exact exec_of_modifyBy hshape haddress hread hwrite

/-- Settles O33: each is a register change with no bus access, whose flags are those of SetNZ. -/
theorem incDecRegisters : Obligations.IncDecRegisters := by
  refine ⟨⟨rfl, rfl, rfl, rfl⟩, fun s r => ?_⟩
  simp only [← Flags.setNZ_eq_nz]
  exact ⟨fun hr => eq_add_one_of_toNat hr ▸ exec_of_registerOnly (i := .inx) rfl rfl,
    fun hr => eq_add_one_of_toNat hr ▸ exec_of_registerOnly (i := .iny) rfl rfl,
    fun hr => eq_sub_one_of_toNat hr ▸ exec_of_registerOnly (i := .dex) rfl rfl,
    fun hr => eq_sub_one_of_toNat hr ▸ exec_of_registerOnly (i := .dey) rfl rfl⟩
end

section
/-! PROOF. Bitwise operations, BIT, shifts and rotates (43_logic_shift R200 to R207): bits of the operand as arithmetic, and
the instructions from the shapes of their behaviours. -/

namespace Sys2Proof

/-! ### Bits 0 and 6 of a byte on its number -/

theorem getLsbD_zero_eq_decide (v : Byte) : v.getLsbD 0 = decide (v.toNat % 2 = 1) :=
  Nat.testBit_zero ..

theorem getLsbD_six (v : Byte) : v.getLsbD 6 = decide (64 ≤ v.toNat % 128) := by
  rw [BitVec.getLsbD, Nat.testBit_eq_decide_div_mod_eq, decide_eq_decide]
  omega

end Sys2Proof

namespace Sys2Proof.Machine

open Claims

/-! ### The flags of BIT and of the shifts -/

/-- BIT's flags (R203), on the numbers of A and the operand. -/
theorem Flags.bitTest_eq (a m : Byte) (p : Flags) :
    Flags.bitTest a m p = { p with
      z := decide (a.toNat &&& m.toNat = 0),
      n := decide (128 ≤ m.toNat), v := decide (64 ≤ m.toNat % 128) } := by
  have hz : a &&& m = 0 ↔ a.toNat &&& m.toNat = 0 := by rw [← BitVec.toNat_inj, BitVec.toNat_and]; rfl
  simp only [Flags.bitTest, hz, getLsbD_seven, getLsbD_six]

/-- A shift's flags: the carry-out, then `nz` of the result. -/
theorem Flags.setShift_eq_nz (o : ShiftResult) (p : Flags) : Flags.setShift o p = nz o.r { p with c := o.c } :=
  Flags.setNZ_eq_nz ..

/-! ### The shapes of this family -/

/-- AND, ORA and EOR replace A by the byte with those bits, then SetNZ (R200 to R202). -/
theorem behaviourOf_bitwise {mn : Mnemonic} {s : State} {m r : Byte}
    (h : (mn = .and ∧ ∀ k < 8, r.getLsbD k = (s.a.getLsbD k && m.getLsbD k)) ∨
      (mn = .ora ∧ ∀ k < 8, r.getLsbD k = (s.a.getLsbD k || m.getLsbD k)) ∨
      (mn = .eor ∧ ∀ k < 8, r.getLsbD k = (s.a.getLsbD k ^^ m.getLsbD k))) :
    ∃ f, behaviourOf mn = readThen f ∧
      ∀ log, f m { s with periphLog := log } = State.setNZ r { s with a := r, periphLog := log } := by
  obtain ⟨rfl, hr⟩ | ⟨rfl, hr⟩ | ⟨rfl, hr⟩ := h
  · obtain rfl : r = s.a &&& m := BitVec.eq_of_getLsbD_eq fun k hk => by rw [hr k hk, BitVec.getLsbD_and]
    exact ⟨_, rfl, fun _ => rfl⟩
  · obtain rfl : r = s.a ||| m := BitVec.eq_of_getLsbD_eq fun k hk => by rw [hr k hk, BitVec.getLsbD_or]
    exact ⟨_, rfl, fun _ => rfl⟩
  · obtain rfl : r = s.a ^^^ m := BitVec.eq_of_getLsbD_eq fun k hk => by rw [hr k hk, BitVec.getLsbD_xor]
    exact ⟨_, rfl, fun _ => rfl⟩

theorem ShiftResult.eq_mk {o : ShiftResult} {r : Byte} {c : Bool} (hr : r.toNat = o.r.toNat) (hc : o.c = c) :
    o = ⟨r, c⟩ := by
  rw [BitVec.eq_of_toNat_eq hr, ← hc]

/-- The four shift mnemonics have the shift shape, and their primitives the arithmetic of `shiftNumber` (R126, R204 to
R207). -/
theorem behaviourOf_shift {mn : Mnemonic} {v r : Byte} {cin c : Bool} {n : Nat}
    (h : shiftNumber mn v cin = some (n, c)) (hr : r.toNat = n) :
    ∃ op, behaviourOf mn = shiftBy op ∧ op v cin = ⟨r, c⟩ := by
  unfold shiftNumber at h
  split at h <;> cases h
  · exact ⟨aslOp, rfl, ShiftResult.eq_mk (hr.trans (toNat_shiftLeft_one v).symm) (getLsbD_seven v)⟩
  · exact ⟨lsrOp, rfl, ShiftResult.eq_mk (hr.trans (toNat_shiftRight_one v).symm) (getLsbD_zero_eq_decide v)⟩
  · exact ⟨rolOp, rfl, ShiftResult.eq_mk (hr.trans (toNat_rolOp_r v cin).symm) (getLsbD_seven v)⟩
  · exact ⟨rorOp, rfl, ShiftResult.eq_mk (hr.trans (toNat_rorOp_r v cin).symm) (getLsbD_zero_eq_decide v)⟩

/-! ### Whole instructions, by shape -/

/-- Every accumulator form costs 2 cycles (R84). -/
theorem Instr.base_of_accumulator {i : Instr} (h : i.mode = .accumulator) : i.variant.base = 2 := by
  cases i <;> simp [Instr.mode, Instr.variant] at h ⊢

theorem AddressIs.mode_ne_accumulator {i : Instr} {s t : State} {a : Addr} {cross : Bool}
    (h : AddressIs i s a cross t) : i.mode ≠ .accumulator := by
  intro hacc
  rw [AddressIs, hacc] at h
  cases h

section
variable {i : Instr} {s t u w : State} {op : Byte → Bool → ShiftResult} {r : Byte} {c : Bool}

/-- A shift on A: A and C from the shift, N and Z of the result, no bus access. -/
theorem exec_of_shiftBy_accumulator (hshape : behaviourOf i.mnemonic = shiftBy op) (hacc : i.mode = .accumulator)
    (hop : op s.a s.p.c = ⟨r, c⟩) :
    exec i s = .next (finish 2 { s with a := r, p := nz r { s.p with c := c } }) := by
  have hresolve : resolve i.mode i.arg s = .done ⟨none, false⟩ s := by
    rw [hacc]
    rfl
  have hdone := (shiftBy_done (s := s) (op := op) (fr := fragmentOf i s ⟨none, false⟩)).mpr (.inl ⟨hacc, rfl, rfl⟩)
  rw [← hshape] at hdone
  rw [exec_of_behaviour_done hresolve hdone, hop, Flags.setShift_eq_nz, ← Instr.base_of_accumulator hacc]
  rfl

/-- A shift on memory: C from the shift, N and Z of the byte written, RAM and the access history as the write leaves
them. -/
theorem exec_of_shiftBy_memory (hshape : behaviourOf i.mnemonic = shiftBy op) {a : Addr} {v : Byte} {cross : Bool}
    (haddress : AddressIs i s a cross t) (hread : memRead a t = .done v u) (hop : op v s.p.c = ⟨r, c⟩)
    (hwrite : memWrite a r u = .done () w) :
    exec i s = .next (finish (cost i s cross)
      { s with p := nz r { s.p with c := c }, ram := w.ram, periphLog := w.periphLog }) := by
  have hu : SameButLog s u := (resolve_sameButLog haddress).trans (memRead_sameButLog hread)
  have hw : SameButBus s w := hu.toBus.trans (memWrite_sameButBus hwrite)
  have hopu : op v u.p.c = ⟨r, c⟩ := by rw [hu, hop]
  have hdone : behaviourOf i.mnemonic i.mode (fragmentOf i s ⟨some a, cross⟩) t =
      .done 0 (w.setP (Flags.setShift ⟨r, c⟩ w.p)) := by
    rw [hshape, shiftBy_done]
    exact .inr ⟨AddressIs.mode_ne_accumulator haddress, a, v, u, w, rfl, hread, by rw [hopu, hwrite], rfl, by rw [hopu]⟩
  rw [exec_of_behaviour_done haddress hdone, Flags.setShift_eq_nz, hw]
  rfl

end

end Sys2Proof.Machine

open Sys2Proof Sys2Proof.Machine

/-- Settles O34: a byte is its bits, so the result is the operation of the behaviour, which has the read shape. -/
theorem bitwiseOperations : Obligations.BitwiseOperations := by
  intro i s m r cross log hoperand hbits
  obtain ⟨f, hshape, hf⟩ := behaviourOf_bitwise hbits
  rw [exec_of_readThen hshape hoperand, hf, State.setNZ_eq]

/-- Settles O35: BIT has the read shape and writes flags only. -/
theorem bitTestsTheOperand : Obligations.BitTestsTheOperand := by
  intro i s m cross log hmn hoperand
  rw [exec_of_readThen (by rw [hmn]; rfl) hoperand, ← Flags.bitTest_eq]
  rfl

/-- Settles O36: the shift shape on A, with the primitive's result as arithmetic. -/
theorem accumulatorShifts : Obligations.AccumulatorShifts := by
  intro i s n c r hacc hshift hr
  obtain ⟨op, hshape, hop⟩ := behaviourOf_shift hshift hr
  exact exec_of_shiftBy_accumulator hshape hacc hop

/-- Settles O37: the shift shape on memory; the accesses before the write leave the carry-in as it was. -/
theorem memoryShifts : Obligations.MemoryShifts := by
  intro i s t u w a cross v r n c haddress hread hshift hr hwrite
  obtain ⟨op, hshape, hop⟩ := behaviourOf_shift hshift hr
  exact exec_of_shiftBy_memory hshape haddress hread hop hwrite
end

section
/-! PROOF. Jumps, subroutines, RTI, branches and BRK (44_control R230 to R243): the pushes and pulls from the bus accesses
they make, and the instructions from them. -/

namespace Sys2Proof

/-- A signed byte extended to an address has the byte's signed value. -/
theorem toInt_sext16 (b : Byte) : (sext16 b).toInt = b.toInt :=
  BitVec.toInt_signExtend_of_le (by decide)

/-- An address is moved by a signed byte modulo 65536 (R234). -/
theorem eq_add_sext16_of_toNat {pc target : Addr} {rel : Byte}
    (h : (target.toNat : Int) = ((pc.toNat : Int) + rel.toInt) % 65536) : target = pc + sext16 rel := by
  have hrel := toInt_sext16 rel
  rw [BitVec.toInt_eq_toNat_cond] at hrel
  apply BitVec.eq_of_toNat_eq
  rw [BitVec.toNat_add]
  split at hrel <;> omega

end Sys2Proof

namespace Sys2Proof.Machine

open Claims

/-! ### Pushes, pulls and pointer reads from their bus accesses (R31, R32, R59) -/

section
variable {s t u : State} {lo hi : Byte}

theorem readPair_of_memRead {a b : Addr} (hlo : memRead a s = .done lo t) (hhi : memRead b t = .done hi u) :
    readPair a b s = .done (hiLo hi lo) u := by
  rw [readPair, hlo, Run.andThen_done, hhi, Run.andThen_done]

theorem push_of_memWrite {v : Byte} (h : memWrite (slot s 0) v s = .done () t) :
    push v s = .done () { t with sp := s.sp - 1 } := by
  rw [slot, BitVec.sub_zero] at h
  rw [push, h, Run.andThen_done, State.setSp, memWrite_sameButBus h]

/-- A pair is pushed high byte first, the low byte in the slot below. -/
theorem pushPair_of_memWrite {v : Addr} (hv : v = hiLo hi lo) (hhi : memWrite (slot s 0) hi s = .done () t)
    (hlo : memWrite (slot s 1) lo { t with sp := s.sp - 1 } = .done () u) :
    pushPair v s = .done () { u with sp := s.sp - 2 } := by
  subst hv
  rw [← slot_eq_of_sp (u := { t with sp := s.sp - 1 }) (j := 1) rfl 0] at hlo
  have hpush := push_of_memWrite hlo
  rw [BitVec.sub_sub] at hpush
  rw [pushPair_done, hiByte_hiLo, loByte_hiLo]
  exact ⟨_, push_of_memWrite hhi, hpush⟩

/-- A pair is pulled low byte first, the high byte from the slot above. -/
theorem pullPair_of_memRead (hlo : memRead (stackAddr (s.sp + 1)) { s with sp := s.sp + 1 } = .done lo t)
    (hhi : memRead (stackAddr (s.sp + 2)) { t with sp := s.sp + 2 } = .done hi u) :
    pullPair s = .done (hiLo hi lo) u := by
  have hsp : t.sp + 1 = s.sp + 2 := by
    rw [memRead_sameButLog hlo, BitVec.add_assoc]
    rfl
  rw [← hsp] at hhi
  exact pullPair_done.mpr ⟨lo, t, hi, hlo, hhi, rfl⟩

end

/-! ### A pair pushed to plain slots is the pair pulled (R30, R54) -/

section
variable {s t : State}

theorem pushPair_plain (h0 : s.plainAt (slot s 0)) (h1 : s.plainAt (slot s 1)) (v : Addr) :
    pushPair v s =
      .done () { (s.poke (slot s 0) (hiByte v)).poke (slot s 1) (loByte v) with sp := s.sp - 2 } := by
  have hlo := memWrite_plain (s := { s.poke (slot s 0) (hiByte v) with sp := s.sp - 1 }) h1 (loByte v)
  have hpush := pushPair_of_memWrite (hiLo_hiByte_loByte v).symm (memWrite_plain h0 _) hlo
  exact hpush

/-- The second of two pushes leaves the byte of the first. -/
theorem peek_slots_of_poke (hwf : s.ram.wf = true) (a b : Byte) :
    ((s.poke (slot s 0) a).poke (slot s 1) b).peek (slot s 0) = a ∧
      ((s.poke (slot s 0) a).poke (slot s 1) b).peek (slot s 1) = b := by
  have hwf' := State.wf_poke hwf (slot s 0) a
  have hne : slot s 0 ≠ slot s 1 := fun h => by
    have hsp := stackAddr_injective h
    bv_omega
  exact ⟨(State.peek_poke_other hwf' b hne).trans (State.peek_poke_same hwf _ a), State.peek_poke_same hwf' _ b⟩

/-- Where the two slots below `s` hold a pair, a pull from two below pulls it. -/
theorem pullPair_of_peek {v : Addr} (hsp : t.sp = s.sp - 2) (h0 : t.plainAt (slot s 0)) (h1 : t.plainAt (slot s 1))
    (hhi : t.peek (slot s 0) = hiByte v) (hlo : t.peek (slot s 1) = loByte v) :
    pullPair t = .done v { t with sp := s.sp } := by
  have hsp1 : s.sp - BitVec.ofNat 8 1 = t.sp + 1 := by bv_omega
  have hsp0 : s.sp - BitVec.ofNat 8 0 = t.sp + 2 := by bv_omega
  have hsp2 : s.sp = t.sp + 2 := by bv_omega
  rw [slot, hsp1] at h1 hlo
  rw [slot, hsp0] at h0 hhi
  rw [hsp2, ← hiLo_hiByte_loByte v, ← hhi, ← hlo]
  exact pullPair_of_memRead (memRead_plain (s := { t with sp := t.sp + 1 }) h1)
    (memRead_plain (s := { t with sp := t.sp + 2 }) h0)

end

/-! ### The flags on the stack (R26) -/

/-- The pushed copy of P is its image with bits 5 and 4 set. -/
theorem Flags.pushed_eq_or (p : Flags) : p.pushed = p.toByte ||| 0x30 := by
  apply BitVec.eq_of_getLsbD_eq
  intro k hk
  simp only [Flags.pushed_eq_byteOfBits, Flags.toByte_eq_byteOfBits, BitVec.getLsbD_or, getLsbD_byteOfBits]
  interval_cases k <;> simp

theorem Flags.eq_ofByte {p : Flags} {b : Byte} (hn : p.n = b.getLsbD 7) (hv : p.v = b.getLsbD 6)
    (hd : p.d = b.getLsbD 3) (hi : p.i = b.getLsbD 2) (hz : p.z = b.getLsbD 1) (hc : p.c = b.getLsbD 0) :
    p = Flags.ofByte b := by
  rw [Flags.ofByte, ← hn, ← hv, ← hd, ← hi, ← hz, ← hc]

/-! ### The BRK entry from its accesses (R243) -/

/-- The pushes of the entry leave P and the configuration as they were until I is set. -/
theorem brkEntry_of_accesses {s u w z : State} {target : Addr} (hpc : pushPair s.pc s = .done () u)
    (hp : memWrite (slot s 2) s.p.pushed u = .done () w)
    (hvector : readPair s.cfg.brkVector (s.cfg.brkVector + 1)
      { w with sp := s.sp - 3, p := { s.p with i := true } } = .done target z) :
    brkEntry s = .done () (z.setPc target) := by
  have hu := pushPair_frame hpc
  have hsp : u.sp = s.sp - 2 := congrArg State.sp hu
  have hsp3 : u.sp - 1 = s.sp - 3 := by bv_omega
  have hup : u.p = s.p := by rw [hu]
  have hwp : w.p = s.p := by rw [memWrite_sameButBus hp, hu]
  have hwcfg : w.cfg = s.cfg := by rw [memWrite_sameButBus hp, hu]
  rw [← slot_eq_of_sp hsp 0, ← hup] at hp
  rw [← hsp3, ← hwp, ← hwcfg] at hvector
  exact brkEntry_done.mpr ⟨u, _, z, target, hpc, push_of_memWrite hp, hvector, rfl⟩

/-! ### JMP resolves without a page crossing (R115, R230) -/

theorem Instr.mode_of_jmp {i : Instr} (h : i.mnemonic = .jmp) : i.mode = .absolute ∨ i.mode = .indirect := by
  cases i <;> simp [Instr.mnemonic, Instr.mode, Instr.variant] at h ⊢

theorem AddressIs.cross_eq_false_of_jmp {i : Instr} {s t : State} {a : Addr} {cross : Bool} (hmn : i.mnemonic = .jmp)
    (h : AddressIs i s a cross t) : cross = false := by
  unfold AddressIs at h
  obtain hmode | hmode := Instr.mode_of_jmp hmn
  · rw [hmode] at h
    cases h
    rfl
  · rw [hmode] at h
    obtain ⟨p, u, -, h⟩ := Run.andThen_eq_done.mp h
    cases h
    rfl

/-! ### Whole instructions -/

section
variable {i : Instr} {s t : State}

/-- An instruction of a mode without an effective address completes for its base count and what its behaviour adds. -/
theorem exec_of_no_address {k : Nat} (hmode : i.mode = .implied ∨ i.mode = .relative)
    (hdone : behaviourOf i.mnemonic i.mode (fragmentOf i s ⟨none, false⟩) s = .done k t) :
    exec i s = .next (finish (i.variant.base + k) t) := by
  have hresolve : resolve i.mode i.arg s = .done ⟨none, false⟩ s := by
    obtain hmode | hmode := hmode <;> rw [hmode] <;> rfl
  exact exec_of_behaviour_done hresolve hdone

theorem exec_jsr_of_pushPair (target : Addr) (h : pushPair (s.pc - 1) s = .done () t) :
    exec (.jsr target) s = .next (finish 6
      { s with pc := target, sp := s.sp - 2, ram := t.ram, periphLog := t.periphLog }) := by
  have hdone : behaveJsr .absolute (fragmentOf (.jsr target) s ⟨some target, false⟩) s = .done 0 (t.setPc target) := by
    rw [behaveJsr, h]
    rfl
  rw [exec_of_behaviour_done (i := .jsr target) rfl hdone, pushPair_frame h]
  rfl

theorem exec_rts_of_pullPair {v : Addr} (h : pullPair s = .done v t) :
    exec .rts s = .next (finish 6 { s with pc := v + 1, sp := s.sp + 2, periphLog := t.periphLog }) := by
  have hdone : behaveRts .implied (fragmentOf .rts s ⟨none, false⟩) s = .done 0 (t.setPc (v + 1)) := by
    rw [behaveRts, h]
    rfl
  rw [exec_of_no_address (i := .rts) (.inl rfl) hdone, pullPair_frame h]
  rfl

theorem exec_rti_of_returnFromBreak (h : returnFromBreak s = .done () t) : exec .rti s = .next (finish 6 t) := by
  have hdone : behaveRti .implied (fragmentOf .rti s ⟨none, false⟩) s = .done 0 t := by
    rw [behaveRti, h]
    rfl
  exact exec_of_no_address (i := .rti) (.inl rfl) hdone

/-- BRK in `vector` mode is its entry sequence, PC past the padding byte (R312). -/
theorem exec_brk_of_brkEntry (hmode : s.cfg.brkMode = .vector) (h : brkEntry (s.setPc (s.pc + 1)) = .done () t) :
    exec .brk s = .next (finish 7 t) := by
  have hdone : behaveBrk .implied (fragmentOf .brk s ⟨none, false⟩) s = .done 0 t := by
    simp only [behaveBrk, State.setPc_cfg, hmode, h, Run.andThen_done]
  exact exec_of_no_address (i := .brk) (.inl rfl) hdone

end

/-! ### Branches (R234 to R242) -/

section
variable {i : Instr} {s : State}

/-- Each branch has the branch shape, its offset as argument, and its flag as condition. -/
theorem branchOn_eq_some {p : Flags} {rel : Byte} {taken : Bool} (h : branchOn i p = some (rel, taken)) :
    ∃ cond, behaviourOf i.mnemonic = branchIf cond ∧ cond p = taken ∧ i.mode = .relative ∧ i.arg = zext16 rel ∧
      i.variant.base = 2 := by
  unfold branchOn at h
  split at h <;> cases h
  · exact ⟨fun p => !p.n, rfl, rfl, rfl, rfl, rfl⟩
  · exact ⟨fun p => p.n, rfl, rfl, rfl, rfl, rfl⟩
  · exact ⟨fun p => !p.v, rfl, rfl, rfl, rfl, rfl⟩
  · exact ⟨fun p => p.v, rfl, rfl, rfl, rfl, rfl⟩
  · exact ⟨fun p => !p.c, rfl, rfl, rfl, rfl, rfl⟩
  · exact ⟨fun p => p.c, rfl, rfl, rfl, rfl, rfl⟩
  · exact ⟨fun p => !p.z, rfl, rfl, rfl, rfl, rfl⟩
  · exact ⟨fun p => p.z, rfl, rfl, rfl, rfl, rfl⟩

/-- A branch costs 1 more if taken, or 2 to another page, that is where the page numbers differ (R122, R128). -/
theorem branch_extra (u v : Addr) :
    (2 + if pageCrossed u v = true then 2 else 1) = if u.toNat / 256 = v.toNat / 256 then 3 else 4 := by
  have hcross : pageCrossed u v = true ↔ ¬ u.toNat / 256 = v.toNat / 256 := by
    rw [pageCrossed, bne_iff_ne, ne_eq, ← BitVec.toNat_inj, toNat_hiByte, toNat_hiByte]
  simp only [hcross]
  split_ifs <;> rfl

/-- A branch moves PC iff its condition holds; the extra cycles are those of `branchIf` (R128). -/
theorem exec_of_branchIf {cond : Flags → Bool} (hshape : behaviourOf i.mnemonic = branchIf cond)
    (hmode : i.mode = .relative) {target : Addr} (htarget : target = s.pc + sext16 (loByte i.arg)) :
    exec i s = .next (if cond s.p = true
      then finish (i.variant.base + if pageCrossed target s.pc = true then 2 else 1) { s with pc := target }
      else finish i.variant.base s) := by
  subst htarget
  have hexec {k : Nat} {t : State} (h : branchIf cond i.mode (fragmentOf i s ⟨none, false⟩) s = .done k t) :
      exec i s = .next (finish (i.variant.base + k) t) :=
    exec_of_no_address (.inr hmode) (hshape ▸ h)
  by_cases hcond : cond s.p = true
  · rw [if_pos hcond, hexec (branchIf_done.mpr (.inl ⟨hcond, rfl, rfl⟩))]
    rfl
  · rw [if_neg hcond, hexec (branchIf_done.mpr (.inr ⟨Bool.eq_false_iff.mpr hcond, rfl, rfl⟩))]
    rfl

end

end Sys2Proof.Machine

open Sys2Proof Sys2Proof.Machine

/-- Settles O38: neither form of JMP crosses a page, and the pointer reads change the access history only. -/
theorem jmpLoadsPc : Obligations.JmpLoadsPc := by
  intro i s t a cross hmn haddress
  obtain rfl := AddressIs.cross_eq_false_of_jmp hmn haddress
  have hdone : behaviourOf i.mnemonic i.mode (fragmentOf i s ⟨some a, false⟩) t = .done 0 (t.setPc a) := by
    rw [hmn]
    rfl
  rw [exec_of_behaviour_done haddress hdone, resolve_sameButLog haddress]
  rfl

/-- Settles O39: the two writes are the pushed pair. -/
theorem jsrPushesAndJumps : Obligations.JsrPushesAndJumps := by
  intro s t u target hi lo hreturn hhi hlo
  have hpair : s.pc - 1 = hiLo hi lo := by
    apply BitVec.eq_of_toNat_eq
    rw [toNat_hiLo, ← hreturn]
    bv_omega
  have hpush := pushPair_of_memWrite hpair hhi hlo
  rw [exec_jsr_of_pushPair target hpush]

/-- Settles O40: the two reads are the pulled pair. -/
theorem rtsPullsPc : Obligations.RtsPullsPc := by
  intro s t u lo hi hlo hhi
  rw [exec_rts_of_pullPair (pullPair_of_memRead hlo hhi), hiLo_eq_ofNat, BitVec.ofNat_add _ 1]
  rfl

/-- Settles O41: the first read is the pulled P, the other two the pulled pair, with S and P as the first pull leaves
them. -/
theorem rtiPullsFlagsAndPc : Obligations.RtiPullsFlagsAndPc := by
  intro s t u w p lo hi hp flags hn hv hd hint hz hc hlo hhi
  obtain rfl := Flags.eq_ofByte hn hv hd hint hz hc
  have hsp : t.sp = s.sp + 1 := by rw [memRead_sameButLog hp]
  have hsp1 : s.sp + 2 = t.sp + 1 := by bv_omega
  have hsp2 : s.sp + 3 = t.sp + 2 := by bv_omega
  rw [hsp1] at hlo
  rw [hsp2] at hhi
  have hpull := pullPair_of_memRead (s := t.setP (Flags.ofByte p)) hlo hhi
  have hreturn : returnFromBreak s = .done () (w.setPc (hiLo hi lo)) :=
    returnFromBreak_done.mpr ⟨p, t, hiLo hi lo, w, hp, hpull, rfl⟩
  have hflags : w.p = Flags.ofByte p := congrArg State.p (pullPair_frame hpull)
  rw [exec_rti_of_returnFromBreak hreturn, returnFromBreak_frame hreturn, ← hiLo_eq_ofNat, ← hflags]
  rfl

/-- Settles O42: the slots RTS pulls are the two JSR pushed. -/
theorem rtsReturnsFromJsr : Obligations.RtsReturnsFromJsr := by
  intro s target hwf hplain0 hplain1
  obtain ⟨hhi, hlo⟩ := peek_slots_of_poke hwf (hiByte (s.pc - 1)) (loByte (s.pc - 1))
  have hjsr := exec_jsr_of_pushPair target (pushPair_plain hplain0 hplain1 (s.pc - 1))
  refine ⟨_, _, hjsr, rfl, exec_rts_of_pullPair (pullPair_of_peek (s := s) rfl hplain0 hplain1 hhi hlo), ?_, ?_⟩
  · exact BitVec.sub_add_cancel s.pc 1
  · exact BitVec.sub_add_cancel s.sp 2

/-- Settles O43: each branch has the branch shape, and its target the arithmetic of the signed offset. -/
theorem branchesOnAFlag : Obligations.BranchesOnAFlag := by
  intro i s rel taken target hbranch htarget
  obtain ⟨cond, hshape, rfl, hmode, harg, hbase⟩ := branchOn_eq_some hbranch
  have hoffset : target = s.pc + sext16 (loByte i.arg) := by
    rw [harg, loByte_zext16]
    exact eq_add_sext16_of_toNat htarget
  rw [exec_of_branchIf hshape hmode hoffset, hbase, branch_extra]

/-- Settles O44: the entry sequence does not run; besides PC, only the status changes. -/
theorem brkSignalStops : Obligations.BrkSignalStops := by
  intro s hmode
  have hdone : behaveBrk .implied (fragmentOf .brk s ⟨none, false⟩) s =
      .done 0 { s with pc := s.pc + 1, status := .stopped .brk } := by
    simp only [behaveBrk, State.setPc_cfg, hmode]
    rfl
  exact exec_of_no_address (i := .brk) (.inl rfl) hdone

/-- Settles O45: the accesses are those of the entry sequence, in its order. -/
theorem brkVectorEntry : Obligations.BrkVectorEntry := by
  intro s s1 s2 s3 s4 s5 hi lo tlo thi hmode hreturn hhi hlo hp htlo hthi
  have hpair : s.pc + 1 = hiLo hi lo := BitVec.eq_of_toNat_eq (by rw [toNat_hiLo, ← hreturn]; rfl)
  rw [← Flags.pushed_eq_or] at hp
  have hentry := brkEntry_of_accesses (s := s.setPc (s.pc + 1)) (pushPair_of_memWrite hpair hhi hlo) hp
    (readPair_of_memRead htlo hthi)
  rw [exec_brk_of_brkEntry hmode hentry, brkEntry_frame hentry, ← hiLo_eq_ofNat]
  rfl
end

section
/-! PROOF. Pushes, pulls, flag instructions and NOP (45_stack_status R260 to R270, 44_control R244): PHA and PHP are one
push, PLA and PLP one pull, the others a register change with no bus access. -/

namespace Sys2Proof.Machine

open Claims

variable {i : Instr} {s t : State} {v : Byte}

/-- The byte PHP pushes is the image of P with bit 4, which is clear there, added (R26, R261, D8). -/
theorem Flags.eq_pushed_of_toNat {p : Flags} (h : v.toNat = p.toByte.toNat + 16) : v = p.pushed := by
  obtain ⟨-, hpushed, -⟩ := statusByteImage.1 p
  exact BitVec.eq_of_toNat_eq (h.trans hpushed.symm)

/-- PHA and PHP push one byte (R260, R261). -/
theorem behaviourOf_push (h : (i = .pha ∧ v = s.a) ∨ (i = .php ∧ v.toNat = s.p.toByte.toNat + 16)) :
    i.mode = .implied ∧ i.variant.base = 3 ∧
      ∀ fr, behaviourOf i.mnemonic i.mode fr s = (push v s).andThen fun _ t => .done 0 t := by
  obtain ⟨rfl, rfl⟩ | ⟨rfl, hv⟩ := h
  · exact ⟨rfl, rfl, fun _ => rfl⟩
  · obtain rfl := Flags.eq_pushed_of_toNat hv
    exact ⟨rfl, rfl, fun _ => rfl⟩

theorem exec_pla_of_pull (h : pull s = .done v t) :
    exec .pla s = .next (finish 4 { s with sp := s.sp + 1, a := v, p := nz v s.p, periphLog := t.periphLog }) := by
  have hdone : behavePla .implied (fragmentOf .pla s ⟨none, false⟩) s = .done 0 ((t.setA v).setNZ v) := by
    rw [behavePla, h, Run.andThen_done]
  rw [exec_of_no_address (i := .pla) (.inl rfl) hdone, State.setNZ_eq, pull_frame h]
  rfl

theorem exec_plp_of_pull (h : pull s = .done v t) :
    exec .plp s = .next (finish 4 { s with sp := s.sp + 1, periphLog := t.periphLog, p := Flags.ofByte v }) := by
  have hdone : behavePlp .implied (fragmentOf .plp s ⟨none, false⟩) s = .done 0 (t.setP (Flags.ofByte v)) := by
    rw [behavePlp, h, Run.andThen_done]
  rw [exec_of_no_address (i := .plp) (.inl rfl) hdone, pull_frame h]
  rfl

end Sys2Proof.Machine

open Sys2Proof Sys2Proof.Machine

/-- Settles O47: the write is the push, which leaves S one less; a write changes RAM and the history only. -/
theorem pushesWriteTheStack : Obligations.PushesWriteTheStack := by
  refine ⟨toNat_stackAddr, fun i s t v hbyte hwrite => ?_⟩
  obtain ⟨himplied, hbase, hbehave⟩ := behaviourOf_push hbyte
  have hdone : behaviourOf i.mnemonic i.mode (fragmentOf i s ⟨none, false⟩) s = .done 0 { t with sp := s.sp - 1 } := by
    rw [hbehave, push_of_memWrite hwrite, Run.andThen_done]
  rw [exec_of_no_address (.inl himplied) hdone, hbase, memWrite_sameButBus hwrite]

/-- Settles O48: the read is the pull; the flags PLP sets are those of the pulled byte. -/
theorem pullsReadTheStack : Obligations.PullsReadTheStack :=
  ⟨toNat_stackAddr, fun _ _ _ hread => ⟨exec_pla_of_pull hread, exec_plp_of_pull hread⟩⟩

/-- Settles O49: each is a register change with no bus access: of its one flag, or none. -/
theorem flagInstructionsAndNop : Obligations.FlagInstructionsAndNop := by
  refine ⟨⟨rfl, rfl, rfl, rfl, rfl, rfl, rfl, rfl⟩, fun s => ?_⟩
  exact ⟨exec_of_registerOnly (i := .clc) rfl rfl, exec_of_registerOnly (i := .sec) rfl rfl,
    exec_of_registerOnly (i := .cli) rfl rfl, exec_of_registerOnly (i := .sei) rfl rfl,
    exec_of_registerOnly (i := .cld) rfl rfl, exec_of_registerOnly (i := .sed) rfl rfl,
    exec_of_registerOnly (i := .clv) rfl rfl, exec_of_registerOnly (i := .nop) rfl rfl⟩
end

section
/-! PROOF. Faults (60_exceptions R300 to R308): whatever fails in an instruction was raised in a state the step had
reached, by a bus access, the decimal policy or the opcode fetch, and never for want of an effective address (R306). -/

namespace Sys2Proof.Machine

/-! ### Where a fault comes from -/

/-- The fault was raised in a state that part of a step reaches from `s`, and is not InvalidAddressingMode. -/
def Fault.RaisedFrom (s : State) (f : Fault) : Prop :=
  ∃ record t, f = t.raise record ∧ WithinStep s t ∧ ∀ mode, record ≠ .invalidAddressingMode mode

theorem Fault.RaisedFrom.of_withinStep {s t : State} {f : Fault} (hf : f.RaisedFrom t) (h : WithinStep s t) :
    f.RaisedFrom s := by
  obtain ⟨record, u, rfl, hu, hrecord⟩ := hf
  exact ⟨record, u, rfl, h.trans hu, hrecord⟩

/-- Every fault of `r` was raised in that way. -/
def Run.RaisesFrom {α : Type} (s : State) (r : Run α) : Prop := ∀ f, r = .failed f → f.RaisedFrom s

section
variable {α β : Type} {s t : State} {post : α → Prop}

theorem Run.RaisesFrom.done (v : α) : (Run.done v t).RaisesFrom s := by
  rintro _ ⟨⟩

theorem Run.RaisesFrom.raise {record : FaultRecord} (hrecord : ∀ mode, record ≠ .invalidAddressingMode mode)
    (h : WithinStep s t) : (Run.failed (t.raise record) : Run α).RaisesFrom s := by
  rintro _ ⟨⟩
  exact ⟨record, t, rfl, h, hrecord⟩

/-- A first part that changes registers only. -/
theorem Run.RaisesFrom.after {r : Run α} (hr : r.RaisesFrom t) (h : SameButRegisters s t := by exact rfl) :
    r.RaisesFrom s :=
  fun f hf => (hr f hf).of_withinStep h.withinStep

/-- A sequence faults in its first part, or in its second from where the first has come to. -/
theorem Run.RaisesFrom.andThen {r : Run α} {k : α → State → Run β} (hr : r.RaisesFrom s) (hwithin : r.Within s post)
    (hk : ∀ v u, (k v u).RaisesFrom u) : (r.andThen k).RaisesFrom s := by
  intro f hf
  obtain hf | ⟨v, u, hu, hf⟩ := Run.andThen_eq_failed.mp hf
  · exact hr f hf
  · exact (hk v u f hf).of_withinStep (hwithin v u hu).1

/-- Where there is an effective address, none is missed. -/
theorem withEa_raisesFrom {mode : Mode} {fr : Fragment} {f : Addr → Run α} (hea : fr.ea ≠ none)
    (h : ∀ a, (f a).RaisesFrom s) : (withEa mode fr s f).RaisesFrom s := by
  unfold withEa
  split
  · exact h _
  · contradiction

end

/-! ### The shared operations -/

theorem memRead_raisesFrom (a : Addr) (s : State) : (memRead a s).RaisesFrom s := by
  unfold memRead
  split
  · exact .raise (by simp) (.refl s)
  split
  next p hp =>
    dsimp only
    split
    · exact .done _
    · exact .raise (by simp) (withinStep_logAccess hp _)
  · exact .done _

theorem memWrite_raisesFrom (a : Addr) (v : Byte) (s : State) : (memWrite a v s).RaisesFrom s := by
  unfold memWrite
  split
  · exact .raise (by simp) (.refl s)
  split
  next p hp =>
    dsimp only
    split
    · exact .done _
    · exact .raise (by simp) (withinStep_logAccess hp _)
  · exact .done _

theorem readPair_raisesFrom (lo hi : Addr) (s : State) : (readPair lo hi s).RaisesFrom s :=
  (memRead_raisesFrom lo s).andThen (memRead_within lo s) fun _ u =>
  (memRead_raisesFrom hi u).andThen (memRead_within hi u) fun _ _ => .done _

theorem fetch_raisesFrom (s : State) : (fetch s).RaisesFrom s :=
  (memRead_raisesFrom s.pc s).andThen (memRead_within s.pc s) fun _ _ => .done _

theorem push_raisesFrom (v : Byte) (s : State) : (push v s).RaisesFrom s :=
  (memWrite_raisesFrom _ v s).andThen (memWrite_within _ v s) fun _ _ => .done _

theorem pull_raisesFrom (s : State) : (pull s).RaisesFrom s :=
  .after (memRead_raisesFrom _ (s.setSp (s.sp + 1)))

theorem pushPair_raisesFrom (v : Addr) (s : State) : (pushPair v s).RaisesFrom s :=
  (push_raisesFrom _ s).andThen (push_within _ s) fun _ u => push_raisesFrom _ u

theorem pullPair_raisesFrom (s : State) : (pullPair s).RaisesFrom s :=
  (pull_raisesFrom s).andThen (pull_within s) fun _ u =>
  (pull_raisesFrom u).andThen (pull_within u) fun _ _ => .done _

theorem brkEntry_raisesFrom (s : State) : (brkEntry s).RaisesFrom s :=
  (pushPair_raisesFrom s.pc s).andThen (pushPair_within s.pc s) fun _ u =>
  (push_raisesFrom u.p.pushed u).andThen (push_within u.p.pushed u) fun _ w =>
  .after <| (readPair_raisesFrom _ _ (w.setP { w.p with i := true })).andThen (readPair_within _ _ _) fun _ _ => .done _

theorem returnFromBreak_raisesFrom (s : State) : (returnFromBreak s).RaisesFrom s :=
  (pull_raisesFrom s).andThen (pull_within s) fun b u =>
  .after <| (pullPair_raisesFrom (u.setP (Flags.ofByte b))).andThen (pullPair_within _) fun _ _ => .done _

theorem resolve_raisesFrom (mode : Mode) (arg : Addr) (s : State) : (resolve mode arg s).RaisesFrom s := by
  cases mode
  case indirect | indirectX | indirectY =>
    exact (readPair_raisesFrom _ _ s).andThen (readPair_within _ _ s) fun _ _ => .done _
  all_goals exact .done _

theorem fetchInstr_raisesFrom (s : State) : (fetchInstr s).RaisesFrom s := by
  refine (fetch_raisesFrom s).andThen (fetch_within s) fun opcode u => ?_
  cases dispatchMap opcode with
  | unassigned => exact .raise (by simp) (.refl u)
  | noOperand i => exact .done _
  | byteOperand build => exact (fetch_raisesFrom u).andThen (fetch_within u) fun _ _ => .done _
  | wordOperand build =>
    exact (fetch_raisesFrom u).andThen (fetch_within u) fun _ w =>
      (fetch_raisesFrom w).andThen (fetch_within w) fun _ _ => .done _

/-! ### Every behaviour that asks for an effective address is in a mode with one (R90, R306) -/

/-- The behaviour of the mnemonic works on an effective address in that mode (R104). -/
def usesAddress (mn : Mnemonic) (mode : Mode) : Prop :=
  match mn with
  | .adc | .and | .bit | .cmp | .cpx | .cpy | .eor | .lda | .ldx | .ldy | .ora | .sbc => mode ≠ .immediate
  | .asl | .lsr | .rol | .ror => mode ≠ .accumulator
  | .sta | .stx | .sty | .inc | .dec | .jmp => True
  | _ => False

/-- The modes without an effective address (R118). -/
abbrev addresslessModes : List Mode := [.immediate, .accumulator, .implied, .relative]

theorem Instr.mode_not_mem_addresslessModes {i : Instr} (h : usesAddress i.mnemonic i.mode) :
    i.mode ∉ addresslessModes := by
  cases i <;> simp [usesAddress, Instr.mnemonic, Instr.mode, Instr.variant] at h ⊢

theorem resolve_ea_ne_none {mode : Mode} {arg : Addr} {s t : State} {r : Resolved}
    (h : resolve mode arg s = .done r t) (hmode : mode ∉ addresslessModes) : r.ea ≠ none := by
  cases mode
  case immediate | accumulator | implied | relative => simp at hmode
  case indirect | indirectX | indirectY =>
    obtain ⟨p, u, -, h⟩ := Run.andThen_eq_done.mp h
    cases h
    exact Option.some_ne_none _
  all_goals
    cases h
    exact Option.some_ne_none _

/-! ### The behaviours -/

section
variable {mode : Mode} {fr : Fragment}

theorem readOperand_raisesFrom (hea : mode ≠ .immediate → fr.ea ≠ none) (s : State) :
    (readOperand mode fr s).RaisesFrom s := by
  unfold readOperand
  split
  · exact .done _
  · exact withEa_raisesFrom (hea ‹_›) fun a => memRead_raisesFrom a s

theorem readThen_raisesFrom (f : Byte → State → State) (hea : mode ≠ .immediate → fr.ea ≠ none) (s : State) :
    (readThen f mode fr s).RaisesFrom s :=
  (readOperand_raisesFrom hea s).andThen (readOperand_within mode fr s) fun _ _ => .done _

theorem decimalCheck_raisesFrom (fr : Fragment) (s : State) : (decimalCheck fr s).RaisesFrom s := by
  unfold decimalCheck
  split
  · exact .raise (by simp) (.refl s)
  · exact .done _

theorem addWith_raisesFrom (f : Byte → Byte) (hea : mode ≠ .immediate → fr.ea ≠ none) (s : State) :
    (addWith f mode fr s).RaisesFrom s := by
  refine (readOperand_raisesFrom hea s).andThen (readOperand_within mode fr s) fun m u f hf => ?_
  obtain hf | ⟨-, w, -, ⟨⟩⟩ := Run.andThen_eq_failed.mp hf
  exact decimalCheck_raisesFrom fr u f hf

theorem storeOf_raisesFrom (value : State → Byte) (hea : fr.ea ≠ none) (s : State) :
    (storeOf value mode fr s).RaisesFrom s :=
  withEa_raisesFrom hea fun a => (memWrite_raisesFrom a _ s).andThen (memWrite_within a _ s) fun _ _ => .done _

theorem modifyBy_raisesFrom (f : Byte → Byte) (hea : fr.ea ≠ none) (s : State) : (modifyBy f mode fr s).RaisesFrom s :=
  withEa_raisesFrom hea fun a => (memRead_raisesFrom a s).andThen (memRead_within a s) fun v u =>
    (memWrite_raisesFrom a (f v) u).andThen (memWrite_within a (f v) u) fun _ _ => .done _

theorem shiftBy_raisesFrom (op : Byte → Bool → ShiftResult) (hea : mode ≠ .accumulator → fr.ea ≠ none) (s : State) :
    (shiftBy op mode fr s).RaisesFrom s := by
  unfold shiftBy
  split
  · exact .done _
  · exact withEa_raisesFrom (hea ‹_›) fun a => (memRead_raisesFrom a s).andThen (memRead_within a s) fun v u =>
      (memWrite_raisesFrom a _ u).andThen (memWrite_within a _ u) fun _ _ => .done _

theorem branchIf_raisesFrom (cond : Flags → Bool) (s : State) : (branchIf cond mode fr s).RaisesFrom s := by
  unfold branchIf
  split <;> exact .done _

theorem behaveBrk_raisesFrom (s : State) : (behaveBrk mode fr s).RaisesFrom s := by
  unfold behaveBrk
  dsimp only
  split
  · exact .done _
  · exact .after <| (brkEntry_raisesFrom (s.setPc (s.pc + 1))).andThen (brkEntry_within _) fun _ _ => .done _

/-- One case per shape of behaviour, and per behaviour that has none. -/
theorem behaviourOf_raisesFrom {mn : Mnemonic} (hea : usesAddress mn mode → fr.ea ≠ none) (s : State) :
    (behaviourOf mn mode fr s).RaisesFrom s := by
  cases mn <;> simp only [behaviourOf, usesAddress] at hea ⊢
  case lda | ldx | ldy | and | ora | eor | cmp | cpx | cpy | bit => exact readThen_raisesFrom _ hea s
  case adc | sbc => exact addWith_raisesFrom _ hea s
  case sta | stx | sty => exact storeOf_raisesFrom _ (hea trivial) s
  case inc | dec => exact modifyBy_raisesFrom _ (hea trivial) s
  case asl | lsr | rol | ror => exact shiftBy_raisesFrom _ hea s
  case tax | tay | txa | tya | tsx | txs | inx | iny | dex | dey | clc | sec | cli | sei | cld | sed | clv | nop =>
    exact .done _
  case bpl | bmi | bvc | bvs | bcc | bcs | bne | beq => exact branchIf_raisesFrom _ s
  case brk => exact behaveBrk_raisesFrom s
  case jmp => exact withEa_raisesFrom (hea trivial) fun _ => .done _
  case jsr => exact (pushPair_raisesFrom _ s).andThen (pushPair_within _ s) fun _ _ => .done _
  case rts => exact (pullPair_raisesFrom s).andThen (pullPair_within s) fun _ _ => .done _
  case rti => exact (returnFromBreak_raisesFrom s).andThen (returnFromBreak_within s) fun _ _ => .done _
  case pha | php => exact (push_raisesFrom _ s).andThen (push_within _ s) fun _ _ => .done _
  case pla | plp => exact (pull_raisesFrom s).andThen (pull_within s) fun _ _ => .done _

end

/-! ### The whole step -/

section
variable {s : State} {f : Fault}

theorem raisedFrom_of_exec {i : Instr} (h : exec i s = .fault f) : f.RaisedFrom s := by
  rw [exec_eq_execute, execute_eq_fault] at h
  obtain hfail | ⟨r, u, hresolve, hfail⟩ := h
  · exact resolve_raisesFrom _ _ _ f hfail
  · have hea : usesAddress i.mnemonic i.mode → (fragmentOf i s r).ea ≠ none := fun huses =>
      resolve_ea_ne_none hresolve (Instr.mode_not_mem_addresslessModes huses)
    exact (behaviourOf_raisesFrom hea u f hfail).of_withinStep (resolve_within _ _ _ _ _ hresolve).1

/-- A fault of a running machine comes from the fetch or from the instruction fetched. -/
theorem stepInstr_eq_fault_of_step (hrunning : s.status = .running) (h : step s = .fault f) :
    stepInstr s = .fault f := by
  unfold step at h
  split at h
  · cases h
  split at h
  · cases h
  rw [hrunning] at h
  dsimp only at h
  split at h
  · cases h
  · exact h

/-- A step raises its faults itself, where the machine is running (R300, R131). -/
theorem raisedFrom_of_step (hrunning : s.status = .running) (h : step s = .fault f) : f.RaisedFrom s := by
  have h := stepInstr_eq_fault_of_step hrunning h
  unfold stepInstr at h
  split at h
  next i u hfetch => exact (raisedFrom_of_exec h).of_withinStep (fetchInstr_within s i u hfetch).1
  next g hfetch =>
    cases h
    exact fetchInstr_raisesFrom s _ hfetch

end

theorem FaultRecord.code_of_ne_invalidAddressingMode {record : FaultRecord}
    (h : ∀ mode, record ≠ .invalidAddressingMode mode) : record.code ∈ [1, 2, 3, 4, 6] := by
  cases record with
  | invalidAddressingMode mode => exact absurd rfl (h mode)
  | _ => simp [FaultRecord.code]

end Sys2Proof.Machine

open Sys2Proof.Machine

/-- Settles O56: raising a fault changes the status only, and a part of a step before its finalize leaves counters and
configuration. -/
theorem faultEndsTheRun : Obligations.FaultEndsTheRun := by
  intro s record left hrunning h
  obtain ⟨_, t, hf, ht, -⟩ := raisedFrom_of_step hrunning h
  cases hf
  exact ⟨rfl, ht.cycles, ht.steps, ht.cfg⟩

/-- Settles O57: only a missing effective address would raise InvalidAddressingMode, and no instruction misses one. -/
theorem faultCodesAndReach : Obligations.FaultCodesAndReach := by
  refine ⟨fun _ _ _ _ _ => ⟨rfl, rfl, rfl, rfl, rfl, rfl⟩, fun s record left hrunning h => ?_⟩
  obtain ⟨_, t, hf, -, hrecord⟩ := raisedFrom_of_step hrunning h
  cases hf
  exact ⟨hrecord, FaultRecord.code_of_ne_invalidAddressingMode hrecord⟩
end

section
/-! PROOF. The return from BRK (60_exceptions R313): on plain RAM the three bytes of the entry sequence stand in the slots
that RTI pulls. -/

namespace Sys2Proof.Machine

open Claims

variable {s t : State}

/-- The state of the entry sequence's end on plain slots, but for PC: the three bytes pushed, S three less, I set (R243). -/
def State.enterBreak (s : State) : State :=
  { ((s.poke (slot s 0) (hiByte s.pc)).poke (slot s 1) (loByte s.pc)).poke (slot s 2) s.p.pushed with
    sp := s.sp - 3, p := { s.p with i := true } }

theorem brkEntry_ramOnly (h : s.ramOnly) : ∃ target, brkEntry s = .done () (s.enterBreak.setPc target) := by
  have hpush := pushPair_plain (h.plainAt (slot s 0)) (h.plainAt (slot s 1)) s.pc
  refine ⟨_, brkEntry_of_accesses hpush (memWrite_plain ?_ s.p.pushed) (readPair_plain ?_ ?_)⟩
  all_goals exact h.plainAt _

/-- A byte pushed below a pair leaves the pair, and is the byte there. -/
theorem peek_enterBreak (hwf : s.ram.wf = true) :
    s.enterBreak.peek (slot s 0) = hiByte s.pc ∧ s.enterBreak.peek (slot s 1) = loByte s.pc ∧
      s.enterBreak.peek (slot s 2) = s.p.pushed := by
  obtain ⟨hhi, hlo⟩ := peek_slots_of_poke hwf (hiByte s.pc) (loByte s.pc)
  have hwf' := State.wf_poke (State.wf_poke hwf (slot s 0) (hiByte s.pc)) (slot s 1) (loByte s.pc)
  have hne0 : slot s 0 ≠ slot s 2 := fun h => by
    have hsp := stackAddr_injective h
    bv_omega
  have hne1 : slot s 1 ≠ slot s 2 := fun h => by
    have hsp := stackAddr_injective h
    bv_omega
  exact ⟨(State.peek_poke_other hwf' _ hne0).trans hhi, (State.peek_poke_other hwf' _ hne1).trans hlo,
    State.peek_poke_same hwf' _ _⟩

/-- What RTI restores where the three slots below `s` hold a pair and, under it, a pushed P (R233). -/
theorem exec_rti_of_peek {v : Addr} {p : Flags} (hsp : t.sp = s.sp - 3) (hram : t.ramOnly)
    (hhi : t.peek (slot s 0) = hiByte v) (hlo : t.peek (slot s 1) = loByte v) (hp : t.peek (slot s 2) = p.pushed) :
    ∃ u, exec .rti t = .next u ∧ u.pc = v ∧ u.sp = s.sp ∧ u.p = p := by
  have hsp2 : s.sp - BitVec.ofNat 8 2 = t.sp + 1 := by bv_omega
  rw [slot, hsp2] at hp
  have hpull := pull_plain (s := t) (hram.plainAt _)
  rw [hp, ← hsp2] at hpull
  have hpair := pullPair_of_peek (s := s) (t := (t.setSp (s.sp - 2)).setP (Flags.ofByte p.pushed)) rfl
    (hram.plainAt _) (hram.plainAt _) hhi hlo
  have hreturn := (returnFromBreak_done (x := ())).mpr ⟨p.pushed, _, v, _, hpull, hpair, rfl⟩
  obtain ⟨-, -, -, hflags⟩ := statusByteImage.1 p
  exact ⟨_, exec_rti_of_returnFromBreak hreturn, rfl, rfl, hflags⟩

/-- RTI right after the entry sequence restores PC, S and P (R313). -/
theorem exec_rti_of_enterBreak (hwf : s.ram.wf = true) (hram : s.ramOnly) (base : Nat) (target : Addr) :
    ∃ u, exec .rti (finish base (s.enterBreak.setPc target)) = .next u ∧ u.pc = s.pc ∧ u.sp = s.sp ∧ u.p = s.p := by
  obtain ⟨hhi, hlo, hp⟩ := peek_enterBreak hwf
  exact exec_rti_of_peek (t := finish base (s.enterBreak.setPc target)) rfl hram hhi hlo hp

end Sys2Proof.Machine

open Sys2Proof Sys2Proof.Machine

/-- Settles O46: the slots RTI pulls hold what BRK pushed, PC past the padding byte among it. -/
theorem rtiResumesAfterBrk : Obligations.RtiResumesAfterBrk := by
  intro s hwf hram hmode
  obtain ⟨target, hentry⟩ := brkEntry_ramOnly (s := s.setPc (s.pc + 1)) hram
  obtain ⟨u, hrti⟩ := exec_rti_of_enterBreak (s := s.setPc (s.pc + 1)) hwf hram 7 target
  exact ⟨_, u, exec_brk_of_brkEntry hmode hentry, rfl, hrti⟩
end

section
/-! PROOF. A bus access that fails ends the step (60_exceptions R300, R302 to R304, R309): the fault of each access passes
through the sequences after it, the behaviour and the step. -/

namespace Sys2Proof

theorem Instr.length_eq_of_operand (i : Instr) : i.variant.mode.length = i.operand.bytes.length + 1 := by
  have hlength := length_encode i
  rw [encode_eq_cons, List.length_cons] at hlength
  exact hlength.symm

end Sys2Proof

namespace Sys2Proof.Machine

open Claims

variable {i : Instr} {s t u : State} {f : Fault}

/-! ### Sequences -/

theorem Run.andThen_of_failed {α β : Type} {r : Run α} {k : α → State → Run β} (h : r = .failed f) :
    r.andThen k = .failed f := by
  rw [h, Run.andThen_failed]

theorem Run.andThen_of_done {α β : Type} {r : Run α} {k : α → State → Run β} {v : α} {o : Run β} (h : r = .done v t)
    (hk : k v t = o) : r.andThen k = o := by
  rw [h, Run.andThen_done, hk]

/-! ### The operand and the shapes of behaviours -/

section
variable {mode : Mode} {fr : Fragment} {a : Addr}

theorem withEa_of_ea {α : Type} (hea : fr.ea = some a) (k : Addr → Run α) : withEa mode fr s k = k a := by
  rw [withEa, hea]

theorem readOperand_of_ea (hmode : mode ≠ .immediate) (hea : fr.ea = some a) : readOperand mode fr s = memRead a s := by
  rw [readOperand, if_neg hmode, withEa_of_ea hea]

theorem storeOf_of_write_failed {value : State → Byte} (hea : fr.ea = some a) (h : memWrite a (value s) s = .failed f) :
    storeOf value mode fr s = .failed f := by
  rw [storeOf, withEa_of_ea hea, Run.andThen_of_failed h]

theorem modifyBy_of_read_failed {g : Byte → Byte} (hea : fr.ea = some a) (h : memRead a s = .failed f) :
    modifyBy g mode fr s = .failed f := by
  rw [modifyBy, withEa_of_ea hea, Run.andThen_of_failed h]

theorem modifyBy_of_write_failed {g : Byte → Byte} {v : Byte} (hea : fr.ea = some a) (hread : memRead a s = .done v u)
    (h : memWrite a (g v) u = .failed f) : modifyBy g mode fr s = .failed f := by
  rw [modifyBy, withEa_of_ea hea, hread, Run.andThen_done, Run.andThen_of_failed h]

theorem shiftBy_of_read_failed {op : Byte → Bool → ShiftResult} (hmode : mode ≠ .accumulator) (hea : fr.ea = some a)
    (h : memRead a s = .failed f) : shiftBy op mode fr s = .failed f := by
  rw [shiftBy, if_neg hmode, withEa_of_ea hea, Run.andThen_of_failed h]

theorem shiftBy_of_write_failed {op : Byte → Bool → ShiftResult} {v : Byte} (hmode : mode ≠ .accumulator)
    (hea : fr.ea = some a) (hread : memRead a s = .done v u) (h : memWrite a (op v u.p.c).r u = .failed f) :
    shiftBy op mode fr s = .failed f := by
  rw [shiftBy, if_neg hmode, withEa_of_ea hea, hread, Run.andThen_done, Run.andThen_of_failed h]

end

/-- The mnemonics of the read class have the read shape, or that of ADC and SBC (R104). -/
theorem behaviourOf_read {mn : Mnemonic}
    (h : mn ∈ [Mnemonic.adc, .and, .bit, .cmp, .cpx, .cpy, .eor, .lda, .ldx, .ldy, .ora, .sbc]) :
    (∃ g, behaviourOf mn = readThen g) ∨ ∃ g, behaviourOf mn = addWith g := by
  cases mn <;> simp at h
  case adc | sbc => exact .inr ⟨_, rfl⟩
  all_goals exact .inl ⟨_, rfl⟩

/-- The mnemonics that read and write have the shape of INC and DEC, or that of the shifts (R104). -/
theorem behaviourOf_modify {mn : Mnemonic} (h : mn ∈ [Mnemonic.inc, .dec, .asl, .lsr, .rol, .ror]) :
    (∃ g, behaviourOf mn = modifyBy g) ∨ ∃ op, behaviourOf mn = shiftBy op := by
  cases mn <;> simp at h
  case inc | dec => exact .inl ⟨_, rfl⟩
  all_goals exact .inr ⟨_, rfl⟩

/-! ### Whole instructions -/

theorem exec_of_resolve_failed (h : resolve i.mode i.arg s = .failed f) : exec i s = .fault f := by
  rw [exec_eq_execute, execute_eq_fault]
  exact .inl h

theorem exec_of_behaviour_failed {r : Resolved} (hresolve : resolve i.mode i.arg s = .done r t)
    (h : behaviourOf i.mnemonic i.mode (fragmentOf i s r) t = .failed f) : exec i s = .fault f := by
  rw [exec_eq_execute, execute_eq_fault]
  exact .inr ⟨r, t, hresolve, h⟩

section
variable {a : Addr} {cross : Bool}

/-- The read class (R104): the operand read comes first, under ADC and SBC too. -/
theorem exec_of_operand_failed
    (hmn : i.mnemonic ∈ [Mnemonic.adc, .and, .bit, .cmp, .cpx, .cpy, .eor, .lda, .ldx, .ldy, .ora, .sbc])
    (haddress : AddressIs i s a cross t) (h : memRead a t = .failed f) : exec i s = .fault f := by
  have hread : readOperand i.mode (fragmentOf i s ⟨some a, cross⟩) t = .failed f :=
    (readOperand_of_ea (AddressIs.mode_ne_immediate haddress) rfl).trans h
  refine exec_of_behaviour_failed haddress ?_
  obtain ⟨g, hshape⟩ | ⟨g, hshape⟩ := behaviourOf_read hmn <;> rw [hshape]
  · exact Run.andThen_of_failed hread
  · exact Run.andThen_of_failed hread

theorem exec_of_store_failed {v : Byte}
    (hregister : (i.mnemonic = .sta ∧ v = s.a) ∨ (i.mnemonic = .stx ∧ v = s.x) ∨ (i.mnemonic = .sty ∧ v = s.y))
    (haddress : AddressIs i s a cross t) (h : memWrite a v t = .failed f) : exec i s = .fault f := by
  obtain ⟨value, hshape, hvalue⟩ := behaviourOf_store hregister
  refine exec_of_behaviour_failed haddress ?_
  rw [hshape]
  exact storeOf_of_write_failed rfl (by rw [hvalue t (resolve_sameButLog haddress), h])

/-- The read-modify-write class (R104): a read of the byte first. -/
theorem exec_of_modify_read_failed (hmn : i.mnemonic ∈ [Mnemonic.inc, .dec, .asl, .lsr, .rol, .ror])
    (haddress : AddressIs i s a cross t) (h : memRead a t = .failed f) : exec i s = .fault f := by
  refine exec_of_behaviour_failed haddress ?_
  obtain ⟨g, hshape⟩ | ⟨op, hshape⟩ := behaviourOf_modify hmn <;> rw [hshape]
  · exact modifyBy_of_read_failed rfl h
  · exact shiftBy_of_read_failed (AddressIs.mode_ne_accumulator haddress) rfl h

theorem exec_of_modify_write_failed {v r : Byte}
    (hchange : (i.mnemonic = .inc ∧ r.toNat = (v.toNat + 1) % 256) ∨
      (i.mnemonic = .dec ∧ r.toNat = (v.toNat + 255) % 256) ∨
      ∃ c, shiftNumber i.mnemonic v s.p.c = some (r.toNat, c))
    (haddress : AddressIs i s a cross t) (hread : memRead a t = .done v u) (h : memWrite a r u = .failed f) :
    exec i s = .fault f := by
  refine exec_of_behaviour_failed haddress ?_
  obtain hincDec | ⟨c, hshift⟩ := or_assoc.mpr hchange
  · obtain ⟨g, hshape, rfl⟩ := behaviourOf_incDec hincDec
    rw [hshape]
    exact modifyBy_of_write_failed rfl hread h
  · obtain ⟨op, hshape, hop⟩ := behaviourOf_shift hshift rfl
    have hcarry : u.p.c = s.p.c := by rw [(resolve_sameButLog haddress).trans (memRead_sameButLog hread)]
    rw [hshape]
    exact shiftBy_of_write_failed (AddressIs.mode_ne_accumulator haddress) rfl hread (by rw [hcarry, hop, h])

end

/-! ### The pointer bytes (R115 to R117) -/

section
variable {lo hi : Addr}

theorem exec_of_pointer_failed (hpointer : pointerAt i.mode i.arg.toNat s = [lo, hi])
    (h : readPair lo hi s = .failed f) : exec i s = .fault f := by
  refine exec_of_resolve_failed ?_
  rw [resolve_of_pointer hpointer, Run.andThen_of_failed h]

theorem readPair_of_low_failed (h : memRead lo s = .failed f) : readPair lo hi s = .failed f :=
  Run.andThen_of_failed h

theorem readPair_of_high_failed {l : Byte} (hlo : memRead lo s = .done l t) (h : memRead hi t = .failed f) :
    readPair lo hi s = .failed f :=
  Run.andThen_of_done hlo (Run.andThen_of_failed h)

end

/-! ### Pushes and pulls (R31, R32) -/

section
variable {hi lo v : Byte}

theorem push_of_write_failed (h : memWrite (slot s 0) v s = .failed f) : push v s = .failed f := by
  rw [slot, BitVec.sub_zero] at h
  rw [push, Run.andThen_of_failed h]

/-- The first push of a pair is of its high byte. -/
theorem pushPair_of_high_failed {w : Addr} (hw : w = hiLo hi lo) (h : memWrite (slot s 0) hi s = .failed f) :
    pushPair w s = .failed f := by
  rw [pushPair, hw, hiByte_hiLo, Run.andThen_of_failed (push_of_write_failed h)]

theorem pushPair_of_low_failed {w : Addr} (hw : w = hiLo hi lo) (hhi : memWrite (slot s 0) hi s = .done () t)
    (h : memWrite (slot s 1) lo { t with sp := s.sp - 1 } = .failed f) : pushPair w s = .failed f := by
  rw [← slot_eq_of_sp (u := { t with sp := s.sp - 1 }) (j := 1) rfl 0] at h
  rw [pushPair, hw, hiByte_hiLo, loByte_hiLo, push_of_memWrite hhi, Run.andThen_done, push_of_write_failed h]

theorem pullPair_of_low_failed (h : memRead (pullSlot s 1) { s with sp := s.sp + 1 } = .failed f) :
    pullPair s = .failed f :=
  Run.andThen_of_failed h

theorem pullPair_of_high_failed (hlo : memRead (pullSlot s 1) { s with sp := s.sp + 1 } = .done lo t)
    (h : memRead (pullSlot s 2) { t with sp := s.sp + 2 } = .failed f) : pullPair s = .failed f := by
  have hsp : t.sp = s.sp + BitVec.ofNat 8 1 := by rw [memRead_sameButLog hlo]; rfl
  have hsp2 : s.sp + 2 = t.sp + 1 := by bv_omega
  rw [← pullSlot_eq_of_sp hsp 1, hsp2] at h
  exact Run.andThen_of_done hlo (Run.andThen_of_failed h)

/-! ### The return of RTI (R233) -/

theorem returnFromBreak_of_p_failed (h : memRead (pullSlot s 1) { s with sp := s.sp + 1 } = .failed f) :
    returnFromBreak s = .failed f :=
  Run.andThen_of_failed h

theorem returnFromBreak_of_pc_failed (hp : memRead (pullSlot s 1) { s with sp := s.sp + 1 } = .done v t)
    (h : pullPair (t.setP (Flags.ofByte v)) = .failed f) : returnFromBreak s = .failed f :=
  Run.andThen_of_done hp (Run.andThen_of_failed h)

end

/-! ### The BRK entry (R243) -/

/-- After the pushed pair comes the third slot, and P and the configuration are as before. -/
theorem pushPair_keeps {w : Addr} (hpc : pushPair w s = .done () t) :
    t.sp = s.sp - BitVec.ofNat 8 2 ∧ t.p = s.p ∧ t.cfg = s.cfg := by
  rw [pushPair_frame hpc]
  exact ⟨rfl, rfl, rfl⟩

theorem brkEntry_of_pc_failed (h : pushPair s.pc s = .failed f) : brkEntry s = .failed f :=
  Run.andThen_of_failed h

theorem brkEntry_of_p_failed (hpc : pushPair s.pc s = .done () t) (h : memWrite (slot s 2) s.p.pushed t = .failed f) :
    brkEntry s = .failed f := by
  obtain ⟨hsp, hp, -⟩ := pushPair_keeps hpc
  rw [← slot_eq_of_sp hsp 0, ← hp] at h
  exact Run.andThen_of_done hpc (Run.andThen_of_failed (push_of_write_failed h))

theorem brkEntry_of_vector_failed (hpc : pushPair s.pc s = .done () t)
    (hp : memWrite (slot s 2) s.p.pushed t = .done () u)
    (h : readPair s.cfg.brkVector (s.cfg.brkVector + 1) { u with sp := s.sp - 3, p := { s.p with i := true } } =
      .failed f) : brkEntry s = .failed f := by
  obtain ⟨hsp, htp, htcfg⟩ := pushPair_keeps hpc
  have hsp3 : t.sp - 1 = s.sp - 3 := by bv_omega
  have hup : u.p = s.p := by rw [memWrite_sameButBus hp, htp]
  have hucfg : u.cfg = s.cfg := by rw [memWrite_sameButBus hp, htcfg]
  rw [← slot_eq_of_sp hsp 0, ← htp] at hp
  rw [← hsp3, ← hup, ← hucfg] at h
  exact Run.andThen_of_done hpc (Run.andThen_of_done (push_of_memWrite hp) (Run.andThen_of_failed h))

/-! ### The instructions on the stack -/

theorem exec_pha_of_push_failed (h : push s.a s = .failed f) : exec .pha s = .fault f :=
  exec_of_behaviour_failed (i := .pha) rfl (Run.andThen_of_failed h)

theorem exec_php_of_push_failed (h : push s.p.pushed s = .failed f) : exec .php s = .fault f :=
  exec_of_behaviour_failed (i := .php) rfl (Run.andThen_of_failed h)

theorem exec_pla_of_pull_failed (h : pull s = .failed f) : exec .pla s = .fault f :=
  exec_of_behaviour_failed (i := .pla) rfl (Run.andThen_of_failed h)

theorem exec_plp_of_pull_failed (h : pull s = .failed f) : exec .plp s = .fault f :=
  exec_of_behaviour_failed (i := .plp) rfl (Run.andThen_of_failed h)

theorem exec_jsr_of_pushPair_failed (target : Addr) (h : pushPair (s.pc - 1) s = .failed f) :
    exec (.jsr target) s = .fault f :=
  exec_of_behaviour_failed (i := .jsr target) rfl (Run.andThen_of_failed h)

theorem exec_rts_of_pullPair_failed (h : pullPair s = .failed f) : exec .rts s = .fault f :=
  exec_of_behaviour_failed (i := .rts) rfl (Run.andThen_of_failed h)

theorem exec_rti_of_returnFromBreak_failed (h : returnFromBreak s = .failed f) : exec .rti s = .fault f :=
  exec_of_behaviour_failed (i := .rti) rfl (Run.andThen_of_failed h)

theorem exec_brk_of_brkEntry_failed (hmode : s.cfg.brkMode = .vector) (h : brkEntry (s.setPc (s.pc + 1)) = .failed f) :
    exec .brk s = .fault f := by
  have hfail : behaveBrk .implied (fragmentOf .brk s ⟨none, false⟩) s = .failed f := by
    simp only [behaveBrk, State.setPc_cfg, hmode, h, Run.andThen_failed]
  exact exec_of_behaviour_failed (i := .brk) rfl hfail

/-! ### The fetches (R58, R101, R103) -/

theorem fetch_of_read_failed (h : memRead s.pc s = .failed f) : fetch s = .failed f :=
  Run.andThen_of_failed h

theorem fetchInstr_of_opcode_failed (h : memRead s.pc s = .failed f) : fetchInstr s = .failed f :=
  Run.andThen_of_failed (fetch_of_read_failed h)

/-- The opcode alone says how many operand bytes are fetched (R81): each of them is, and its read may fail. -/
theorem fetchInstr_of_operand_failed {opcode : Byte} {done : List Byte} {v : Variant}
    (hlookup : lookupByOpcode opcode = some v) (hlength : done.length + 1 < v.mode.length)
    (h : FetchesTo (opcode :: done) s t) (hread : memRead t.pc t = .failed f) : fetchInstr s = .failed f := by
  obtain ⟨u, hopcode, h⟩ := fetchesTo_cons.mp h
  refine Run.andThen_of_done hopcode ?_
  obtain ⟨i, hsample, rfl⟩ := Option.map_eq_some_iff.mp hlookup
  obtain ⟨o, hfill⟩ := Slot.exists_fill_of_sample hsample
  obtain ⟨-, ho⟩ := dispatchMap_fill_eq_some_iff.mp hfill
  rw [Instr.length_eq_of_operand, ← ho] at hlength
  cases hslot : dispatchMap opcode <;> rw [hslot] at hfill <;> cases o <;> cases hfill
  case noOperand.none.refl => simp [Operand.bytes] at hlength
  case byteOperand.byte.refl build b =>
    obtain rfl : done = [] := by simpa [Operand.bytes] using hlength
    cases h
    exact Run.andThen_of_failed (fetch_of_read_failed hread)
  case wordOperand.word.refl build w =>
    match done with
    | [] =>
      cases h
      exact Run.andThen_of_failed (fetch_of_read_failed hread)
    | [lo] =>
      obtain ⟨z, hlo, h⟩ := fetchesTo_cons.mp h
      cases h
      exact Run.andThen_of_done hlo (Run.andThen_of_failed (fetch_of_read_failed hread))
    | _ :: _ :: rest =>
      simp only [Operand.bytes, List.length_cons, List.length_nil] at hlength
      omega

theorem step_of_fetchInstr_failed (hready : s.ready) (h : fetchInstr s = .failed f) : step s = .fault f := by
  rw [step_of_ready hready, stepInstr, h]

end Sys2Proof.Machine

open Sys2Proof Sys2Proof.Machine

/-- The accesses of the resolver and of the memory forms. -/
theorem memoryAccessFaults : Claims.MemoryAccessFaults := by
  intro i s f
  refine ⟨fun lo hi hpointer h => ?_, fun lo hi l t hpointer hlo h => ?_, fun a cross t haddress => ?_⟩
  · exact exec_of_pointer_failed hpointer (readPair_of_low_failed h)
  · exact exec_of_pointer_failed hpointer (readPair_of_high_failed hlo h)
  · exact ⟨fun hmn => exec_of_operand_failed hmn haddress,
      fun hmn => exec_of_store_failed (.inl ⟨hmn, rfl⟩) haddress,
      fun hmn => exec_of_store_failed (.inr (.inl ⟨hmn, rfl⟩)) haddress,
      fun hmn => exec_of_store_failed (.inr (.inr ⟨hmn, rfl⟩)) haddress,
      fun hmn => exec_of_modify_read_failed hmn haddress,
      fun v r u hread hchange => exec_of_modify_write_failed hchange haddress hread⟩

/-- The accesses of the pushes and pulls, and those of BRK, in the order of its entry sequence. -/
theorem stackAccessFaults : Claims.StackAccessFaults := by
  intro s f
  refine ⟨fun h => ?_, fun v hv h => ?_, fun h => ?_, fun lo t hlo h => ?_, fun p t hp => ?_,
    fun target hi lo hreturn => ?_, fun hi lo hmode hreturn => ?_⟩
  · exact exec_pha_of_push_failed (push_of_write_failed h)
  · exact exec_php_of_push_failed (Flags.eq_pushed_of_toNat hv ▸ push_of_write_failed h)
  · exact ⟨exec_pla_of_pull_failed h, exec_plp_of_pull_failed h, exec_rts_of_pullPair_failed (pullPair_of_low_failed h),
      exec_rti_of_returnFromBreak_failed (returnFromBreak_of_p_failed h)⟩
  · exact exec_rts_of_pullPair_failed (pullPair_of_high_failed hlo h)
  · have hpc {g : Fault} (h : pullPair (t.setP (Flags.ofByte p)) = .failed g) :=
      exec_rti_of_returnFromBreak_failed (returnFromBreak_of_pc_failed hp h)
    have hsp : (t.setP (Flags.ofByte p)).sp = s.sp + BitVec.ofNat 8 1 := by
      rw [State.setP_sp, memRead_sameButLog hp]
      rfl
    have hsp2 : s.sp + 2 = (t.setP (Flags.ofByte p)).sp + 1 := by bv_omega
    have hsp3 : s.sp + 3 = (t.setP (Flags.ofByte p)).sp + 2 := by bv_omega
    rw [← pullSlot_eq_of_sp hsp 1, ← pullSlot_eq_of_sp hsp 2, hsp2, hsp3]
    exact ⟨fun h => hpc (pullPair_of_low_failed h), fun lo u hlo h => hpc (pullPair_of_high_failed hlo h)⟩
  · have hpair : s.pc - 1 = hiLo hi lo := by
      apply BitVec.eq_of_toNat_eq
      rw [toNat_hiLo, ← hreturn]
      bv_omega
    exact ⟨fun h => exec_jsr_of_pushPair_failed target (pushPair_of_high_failed hpair h),
      fun t hhi h => exec_jsr_of_pushPair_failed target (pushPair_of_low_failed hpair hhi h)⟩
  · have hpair : (s.setPc (s.pc + 1)).pc = hiLo hi lo := BitVec.eq_of_toNat_eq (by rw [toNat_hiLo, ← hreturn]; rfl)
    have hentry (h : brkEntry (s.setPc (s.pc + 1)) = .failed f) := exec_brk_of_brkEntry_failed hmode h
    rw [← Flags.pushed_eq_or]
    refine ⟨fun h => ?_, fun s1 hhi => ⟨fun h => ?_, fun s2 hlo => ?_⟩⟩
    · exact hentry (brkEntry_of_pc_failed (pushPair_of_high_failed hpair h))
    · exact hentry (brkEntry_of_pc_failed (pushPair_of_low_failed hpair hhi h))
    have hpc := pushPair_of_memWrite (s := s.setPc (s.pc + 1)) hpair hhi hlo
    refine ⟨fun h => ?_, fun s3 hp => ⟨fun h => ?_, fun tlo s4 htlo h => ?_⟩⟩
    · exact hentry (brkEntry_of_p_failed hpc h)
    · exact hentry (brkEntry_of_vector_failed hpc hp (readPair_of_low_failed h))
    · exact hentry (brkEntry_of_vector_failed hpc hp (readPair_of_high_failed htlo h))

/-- The fetches of the opcode and of the operand bytes. -/
theorem fetchFaults : Claims.FetchFaults := by
  intro s f hready
  refine ⟨fun h => ?_, fun op t v hfetches hlookup hlength h => ?_, fun op lo t v hfetches hlookup hlength h => ?_⟩
  · exact step_of_fetchInstr_failed hready (fetchInstr_of_opcode_failed h)
  · exact step_of_fetchInstr_failed hready (fetchInstr_of_operand_failed (done := []) hlookup hlength hfetches h)
  · exact step_of_fetchInstr_failed hready (fetchInstr_of_operand_failed (done := [lo]) hlookup hlength.ge hfetches h)

/-- Settles O19: each fault passes through the sequences after its access, those before it being done. -/
theorem failedAccessEndsTheInstruction : Obligations.FailedAccessEndsTheInstruction :=
  ⟨memoryAccessFaults, stackAccessFaults, fetchFaults⟩
end

section
/-! PROOF. Reset and the step as a whole (70_reset R340, R342, R343, R363): what is refused, what reset sets, what a step
keeps, what stops a run, and what an instruction costs. -/

namespace Sys2Proof

/-- The low half of an address by its number (R7). -/
theorem loByte_eq_ofNat (w : Addr) : loByte w = BitVec.ofNat 8 (w.toNat % 256) := by
  rw [← toNat_loByte, BitVec.ofNat_toNat, BitVec.setWidth_eq]

/-- The opcode of BRK (R84). -/
theorem Instr.opcode_of_brk {i : Instr} (h : i.mnemonic = .brk) : i.variant.opcode = 0x00 := by
  cases i <;> simp [Instr.mnemonic, Instr.variant] at h ⊢

end Sys2Proof

namespace Sys2Proof.Machine

variable {s t : State}

/-! ### Refusals (R56, R342) -/

theorem execute_ne_refused (i : Instr) (b : Behaviour) (s : State) (r : Refusal) : execute i b s ≠ .refused r := by
  unfold execute
  dsimp only
  split <;> nofun

theorem exec_ne_refused (i : Instr) (s : State) (r : Refusal) : exec i s ≠ .refused r := by
  rw [exec_eq_execute]
  exact execute_ne_refused i _ s r

theorem stepInstr_ne_refused (s : State) (r : Refusal) : stepInstr s ≠ .refused r := by
  unfold stepInstr
  split
  · exact exec_ne_refused _ _ r
  · nofun

theorem step_of_illFormed (h : s.cfg.wellFormed = false) : step s = .refused .illFormedConfiguration :=
  if_pos h

theorem step_of_neverReset (hform : s.cfg.wellFormed = true) (h : s.resetDone = false) : step s = .refused .notReset := by
  simp [step, hform, h]

/-- Past the two checks every status has an answer. -/
theorem step_ne_refused (hform : s.cfg.wellFormed = true) (hreset : s.resetDone = true) (r : Refusal) :
    step s ≠ .refused r := by
  cases hstatus : s.status with
  | running =>
    rw [step_of_running hform hreset hstatus]
    cases checkRunControl s with
    | none => exact stepInstr_ne_refused s r
    | some reason => nofun
  | stopped reason =>
    rw [step_of_stopped hform hreset hstatus]
    nofun
  | faulted record =>
    rw [step_of_faulted hform hreset hstatus]
    nofun

/-! ### What stops a run (R131, R132, R311) -/

/-- Each run-control stop is for its cause (R132). -/
theorem checkRunControl_eq_some {reason : StopReason} (h : checkRunControl s = some reason) :
    (reason = .endAddress ∧ s.cfg.endAddr = some s.pc) ∨
      (reason = .stepBudget ∧ ∃ b, s.cfg.stepBudget = some b ∧ b ≤ s.steps) := by
  unfold checkRunControl at h
  split at h
  next hend =>
    cases h
    exact .inl ⟨rfl, hend⟩
  split at h
  next b hb =>
    split at h
    next hle =>
      cases h
      exact .inr ⟨rfl, b, hb, hle⟩
    · cases h
  · cases h

/-- The fetch reads the instruction's opcode at PC first (R58, R101). -/
theorem memRead_opcode_of_fetchInstr {i : Instr} (h : fetchInstr s = .done i t) :
    ∃ u, memRead s.pc s = .done i.variant.opcode u := by
  obtain ⟨opcode, u, hfetch, h⟩ := Run.andThen_eq_done.mp h
  obtain ⟨w, hread, rfl⟩ := fetch_done.mp hfetch
  suffices hfill : ∃ o, (dispatchMap opcode).fill o = some i by
    obtain ⟨o, hfill⟩ := hfill
    obtain ⟨rfl, -⟩ := dispatchMap_fill_eq_some_iff.mp hfill
    exact ⟨w, hread⟩
  cases hslot : dispatchMap opcode <;> simp only [hslot] at h
  case unassigned => cases h
  case noOperand =>
    cases h
    exact ⟨.none, rfl⟩
  case byteOperand =>
    obtain ⟨b, _, -, h⟩ := Run.andThen_eq_done.mp h
    cases h
    exact ⟨.byte b, rfl⟩
  case wordOperand =>
    obtain ⟨lo, _, -, h⟩ := Run.andThen_eq_done.mp h
    obtain ⟨hi, _, -, h⟩ := Run.andThen_eq_done.mp h
    cases h
    exact ⟨.word (hiLo hi lo), rfl⟩

/-! ### Which behaviours change the status (R36, R311) -/

theorem SameButBus.status (h : SameButBus s t) : t.status = s.status :=
  (congrArg State.status h :)

theorem SameButLog.status (h : SameButLog s t) : t.status = s.status :=
  (congrArg State.status h :)

section
variable {mn : Mnemonic} {mode : Mode} {fr : Fragment} {k : Nat}

theorem behaveBrk_status (h : behaveBrk mode fr s = .done k t) :
    t.status = s.status ∨ (s.cfg.brkMode = .signalStop ∧ t.status = .stopped .brk) := by
  obtain ⟨hmode, rfl⟩ | ⟨-, hentry⟩ := behaveBrk_cases h
  · exact .inr ⟨hmode, rfl⟩
  · exact .inl (congrArg State.status (brkEntry_frame hentry) :)

/-- One case per shape of behaviour, and per behaviour that has none. -/
theorem behaviourOf_keeps_status (hmn : mn ≠ .brk) (h : behaviourOf mn mode fr s = .done k t) :
    t.status = s.status := by
  cases mn <;> simp only [behaviourOf] at h
  case brk => exact absurd rfl hmn
  case lda | ldx | ldy | and | ora | eor | cmp | cpx | cpy | bit =>
    obtain ⟨m, u, hread, -, rfl⟩ := readThen_done.mp h
    exact (readOperand_sameButLog hread).status
  case adc | sbc =>
    obtain ⟨m, u, hread, -, -, rfl⟩ := addWith_done.mp h
    exact (readOperand_sameButLog hread).status
  case sta | stx | sty =>
    obtain ⟨a, -, hwrite, -⟩ := storeOf_done.mp h
    exact (memWrite_sameButBus hwrite).status
  case inc | dec =>
    obtain ⟨a, v, u, w, -, hread, hwrite, -, rfl⟩ := modifyBy_done.mp h
    exact (memWrite_sameButBus hwrite).status.trans (memRead_sameButLog hread).status
  case asl | lsr | rol | ror =>
    obtain ⟨-, -, rfl⟩ | ⟨-, a, v, u, w, -, hread, hwrite, -, rfl⟩ := shiftBy_done.mp h
    · rfl
    · exact (memWrite_sameButBus hwrite).status.trans (memRead_sameButLog hread).status
  case tax | tay | txa | tya | tsx | txs | inx | iny | dex | dey | clc | sec | cli | sei | cld | sed | clv | nop =>
    obtain ⟨-, rfl⟩ := registerOnly_done.mp h
    rfl
  case bpl | bmi | bvc | bvs | bcc | bcs | bne | beq =>
    obtain ⟨target, rfl⟩ := branchIf_writes h
    rfl
  case jmp =>
    obtain ⟨a, -, h⟩ := withEa_done.mp h
    cases h
    rfl
  case pha | php =>
    obtain ⟨_, u, hpush, h⟩ := Run.andThen_eq_done.mp h
    cases h
    exact (congrArg State.status (push_frame hpush) :)
  case jsr =>
    obtain ⟨_, u, hpush, h⟩ := Run.andThen_eq_done.mp h
    cases h
    exact (congrArg State.status (pushPair_frame hpush) :)
  case pla | plp =>
    obtain ⟨v, u, hpull, h⟩ := Run.andThen_eq_done.mp h
    cases h
    exact (congrArg State.status (pull_frame hpull) :)
  case rts =>
    obtain ⟨target, u, hpull, h⟩ := Run.andThen_eq_done.mp h
    cases h
    exact (congrArg State.status (pullPair_frame hpull) :)
  case rti =>
    obtain ⟨_, u, hreturn, h⟩ := Run.andThen_eq_done.mp h
    cases h
    exact (congrArg State.status (returnFromBreak_frame hreturn) :)

end

/-- BRK in `signal_stop` mode alone changes the status (R311). -/
theorem exec_status {i : Instr} (h : exec i s = .next t) :
    t.status = s.status ∨ (i.mnemonic = .brk ∧ s.cfg.brkMode = .signalStop ∧ t.status = .stopped .brk) := by
  rw [exec_eq_execute] at h
  obtain ⟨r, u, extra, w, hresolve, hbehave, rfl⟩ := execute_eq_next.mp h
  have hu := resolve_sameButLog hresolve
  have hcfg : u.cfg = s.cfg := (congrArg State.cfg hu :)
  rw [State.finalize_status, ← hcfg, ← hu.status]
  by_cases hmn : i.mnemonic = .brk
  · rw [hmn, behaviourOf] at hbehave
    exact (behaveBrk_status hbehave).imp_right fun hstop => ⟨hmn, hstop⟩
  · exact .inl (behaviourOf_keeps_status hmn hbehave)

/-- A fetched instruction that completes leaves the machine running, or is BRK read at PC in `signal_stop` mode (R311). -/
theorem status_of_fetched {i : Instr} {u : State} (hrunning : s.status = .running) (hfetch : fetchInstr s = .done i u)
    (h : exec i u = .next t) :
    t.status = .running ∨
      (t.status = .stopped .brk ∧ (∃ w, memRead s.pc s = .done 0x00 w) ∧ s.cfg.brkMode = .signalStop) := by
  have hu := fetchInstr_done hfetch
  have hcfg : u.cfg = s.cfg := (congrArg State.cfg hu :)
  have hustatus : u.status = .running := (congrArg State.status hu :).trans hrunning
  obtain hkept | ⟨hbrk, hmode, hstatus⟩ := exec_status h
  · exact .inl (hkept.trans hustatus)
  · have hread := memRead_opcode_of_fetchInstr hfetch
    rw [Instr.opcode_of_brk hbrk] at hread
    exact .inr ⟨hstatus, hread, hcfg ▸ hmode⟩

end Sys2Proof.Machine

open Sys2Proof Sys2Proof.Machine

/-- Settles O10: the two checks come before the status, and neither run control, fetch nor `exec` refuses. -/
theorem refusalsAreConfigurationAndReset : Obligations.RefusalsAreConfigurationAndReset := by
  refine ⟨fun s r => ?_, exec_ne_refused⟩
  cases hform : s.cfg.wellFormed with
  | false =>
    rw [step_of_illFormed hform]
    simp [eq_comm (a := r)]
  | true =>
    cases hreset : s.resetDone with
    | false =>
      rw [step_of_neverReset hform hreset]
      simp [eq_comm (a := r)]
    | true => simp [step_ne_refused hform hreset r]

/-- Settles O54: a stopped machine keeps its state; run control changes the status only, each stop for its cause; an
instruction stays within the step, counts one, and stops the run only as BRK. -/
theorem stepKeepsConfigurationAndCounts : Obligations.StepKeepsConfigurationAndCounts := by
  intro s t h
  obtain ⟨-, -, ⟨reason, hstopped, rfl⟩ | ⟨-, reason, hcheck, rfl⟩ | ⟨hrunning, -, i, u, hfetch, hexec⟩⟩ := step_eq_next h
  · simp [hstopped]
  · refine ⟨rfl, rfl, ⟨[], rfl⟩, ?_⟩
    obtain ⟨rfl, hend⟩ | ⟨rfl, hbudget⟩ := checkRunControl_eq_some hcheck
    · exact ⟨nofun, fun _ _ => ⟨hend, rfl⟩, nofun, nofun, nofun⟩
    · exact ⟨nofun, nofun, fun _ _ => ⟨hbudget, rfl⟩, nofun, nofun⟩
  · obtain ⟨hu, -⟩ := fetchInstr_within s i u hfetch
    obtain ⟨w, cost, hw, -, -, rfl⟩ := exec_within hexec
    have hsw := hu.trans hw
    obtain ⟨new, hlog, -⟩ := hsw.logGrows
    have hsteps : (w.finalize cost).steps = s.steps + 1 := congrArg (· + 1) hsw.steps
    refine ⟨hsw.cfg, hsw.resetDone, ⟨new, hlog⟩, fun _ _ => hsteps, ?_⟩
    obtain hstatus | ⟨hstatus, hread, hmode⟩ := status_of_fetched hrunning hfetch hexec
    all_goals rw [hstatus]
    · exact ⟨nofun, nofun, nofun, nofun⟩
    · exact ⟨nofun, nofun, fun _ _ => ⟨hread, hmode, hsteps⟩, nofun⟩

/-- Settles O55: an instruction is a part within the step, which leaves the counters, and then its cost. -/
theorem costBetweenTwoAndEight : Obligations.CostBetweenTwoAndEight := by
  intro i s t h
  obtain ⟨u, cost, hu, hlow, hhigh, rfl⟩ := exec_within h
  rw [State.finalize_cycles, State.finalize_steps, hu.cycles, hu.steps]
  omega

/-- Settles O12: reset is that update, S being the low byte by its number. -/
theorem resetSetsAllCoreState : Obligations.ResetSetsAllCoreState := by
  intro loadArg stackArg s
  rw [State.resetWith, loByte_eq_ofNat]
end
